-- ==== Sys2Proof/Word.lean ====
section
/-! DEFINITION. The two word types of the machine (spec/00_scope.md R10, R13). -/

namespace Sys2Proof

/-- A data value: 8 bits, unsigned unless a rule says otherwise (R13). -/
abbrev Byte := BitVec 8

/-- A CPU address, and the program counter: 16 bits (R10). -/
abbrev Addr := BitVec 16

end Sys2Proof
end

