-- ==== Sys2Proof/Config.lean ====
section
/-! DEFINITION. What an implementation fixes and what the spec leaves open: the OPEN parameters of spec/00_scope.md R11,
the oracles of the two collaborators, and what a cartridge supplies. The opaque constants have no body: nothing can
evaluate them, so a theorem holds for every value. -/

namespace Sys2Proof

/-- `JAM_POLICY` (R11, R440, D16). -/
inductive JamPolicy where
  | halt
  | nop
  deriving DecidableEq, Repr, Inhabited

/-- `BRANCH_PENALTY` (R11, R344, D12). -/
inductive BranchPenalty where
  | none
  | hardware
  deriving DecidableEq, Repr, Inhabited

/-- `UNSTABLE_STORE_POLICY` (R11, R430, D17). -/
inductive UnstableStorePolicy where
  | common
  | refuse
  deriving DecidableEq, Repr, Inhabited

/-- `MIRRORING`, the cartridge's name-table mirroring mode (R11, R120, R123). -/
inductive Mirroring where
  | vertical
  | horizontal
  | singleLower
  | singleUpper
  deriving DecidableEq, Repr, Inhabited

/-- The OPEN parameters of R11 that stay fixed for a machine. State carries one record of them, which no step writes, so
a statement about every state holds for every value of every parameter. `irqCycles` is the model's own: R510 gives the
IRQ sequence and no cost for it (log 13). -/
structure Params where
  jamPolicy : JamPolicy
  branchPenalty : BranchPenalty
  unstableStore : UnstableStorePolicy
  aneMagic : Byte
  lxaMagic : Byte
  nmiCycles : Nat
  dmaCycles : Nat
  irqCycles : Nat
  vblankClearOffset : Fin 341
  deriving DecidableEq, Repr, Inhabited

/-- The parameters of the machine that comes out of reset: uninterpreted (log 7). -/
opaque Config.params : Params

/-- The step sizes the host calls `Step(n)` with after reset: uninterpreted (R11, R530, D46; log 2). -/
opaque Config.hostSteps : List Nat

/-- What the input collaborator has seen (R94–R96). -/
inductive ControllerEvent where
  | read (port : Fin 2)
  | strobe (v : Byte)
  deriving DecidableEq, Repr

/-- The controller oracle `port -> history -> UInt8` of R11 (R95, D22): any byte. The history has the newest event
first. -/
opaque Config.readController : Fin 2 → List ControllerEvent → Byte

/-- The sprite-flag oracle `dot -> Bool × Bool` of R11 (R567, D33), by the number of dots the PPU has run: first whether
the rendering collaborator sets sprite-zero hit at that dot, then whether it sets sprite overflow. -/
opaque Config.spriteFlags : Nat → Bool × Bool

/-- A range of CPU addresses, both ends included; `MAPPER_RANGE` is one (R11, R91). -/
structure AddrRange where
  first : Addr
  last : Addr
  deriving DecidableEq, Repr

/-- What a mapper produces from a ROM file for the fixed mapper: the program and graphics images and the mirroring
mode (R602). -/
structure Cartridge where
  prg : List Byte
  chr : List Byte
  mirroring : Mirroring
  deriving DecidableEq, Repr

end Sys2Proof
end

