-- ==== Sys2Proof/Machine/State.lean ====
section
/-! DEFINITION. The state of the machine as plain data, the reasons a step can stop, and the state right after reset
(spec/10_state.md R30–R58). -/

namespace Sys2Proof.Machine

/-- A byte memory: (address, byte) pairs with the addresses strictly rising and no entry equal to $00, which is what an
unlisted address reads as (log 3). -/
abbrev Mem := List Host.Cell

/-- The six stored flags of the status register P; bits 4 and 5 of the status byte are not stored (R36). -/
structure Flags where
  /-- carry -/
  c : Bool
  /-- zero -/
  z : Bool
  /-- interrupt disable -/
  i : Bool
  /-- decimal -/
  d : Bool
  /-- overflow -/
  v : Bool
  /-- negative -/
  n : Bool
  deriving DecidableEq, Repr

/-- The state of the PPU (R52–R56) and the cartridge's mirroring mode (R123). -/
structure Ppu where
  /-- video memory, 16,384 bytes, indexed after PPU redirection (R52) -/
  vram : Mem
  /-- sprite attribute memory, 256 bytes (R53) -/
  oam : Mem
  /-- PPUCTRL (R54, R540) -/
  ctrl : Byte
  /-- PPUMASK (R54, R541) -/
  mask : Byte
  /-- the three flags of PPUSTATUS (R54, R542) -/
  vblank : Bool
  sprite0Hit : Bool
  spriteOverflow : Bool
  /-- the OAM write pointer (R54) -/
  oamAddr : Byte
  /-- the stale latch (R54, R544) -/
  ioLatch : Byte
  /-- the data-read buffer (R54, R550) -/
  readBuffer : Byte
  /-- temporary video address (R55) -/
  t : BitVec 15
  /-- current video address (R55) -/
  v : BitVec 15
  /-- fine X scroll (R55) -/
  x : BitVec 3
  /-- the write toggle shared by $2005 and $2006 (R55, R548) -/
  w : Bool
  /-- position within the scanline, 0–340 (R56) -/
  dot : Nat
  /-- scanline, 0–261 (R56) -/
  scanline : Nat
  /-- frame count (R56) -/
  frame : Nat
  /-- `ppu_done`, the number of dots run (R56) -/
  done : Nat
  /-- the name-table mirroring mode, fixed at load (R123) -/
  mirroring : Mirroring
  deriving DecidableEq, Repr

structure State where
  /-- accumulator (R31) -/
  a : Byte
  /-- index X (R32) -/
  x : Byte
  /-- index Y (R33) -/
  y : Byte
  /-- stack pointer, offset into page $01 (R34) -/
  sp : Byte
  /-- program counter: the next instruction-stream byte to fetch (R35) -/
  pc : Addr
  /-- processor status (R36) -/
  p : Flags
  /-- the core's cycle counter (R43) -/
  cycles : Nat
  /-- the global stop flag (R44) -/
  stop : Bool
  /-- the core was halted by a JAM opcode (R45) -/
  jammed : Bool
  /-- an instruction with no meaning under an OPEN policy was reached (R46) -/
  refused : Bool
  /-- NMI request (R47) -/
  nmiPending : Bool
  /-- DMA request (R48) -/
  dmaPending : Bool
  /-- DMA source address (R49) -/
  dmaSrc : Addr
  /-- the IRQ input, which no source of this system drives (R510, D38; log 13) -/
  irqLine : Bool
  /-- the bus's 65,536-byte region, indexed after redirection (R50) -/
  mem : Mem
  /-- `MAPPER_RANGE` (R50, R91) -/
  mapperRange : AddrRange
  /-- the master cycle counter (R51) -/
  master : Nat
  /-- the PPU (R52–R56) -/
  ppu : Ppu
  /-- the OPEN parameters (R11); the model's own field, written by no step (log 7) -/
  params : Params
  /-- the step sizes the host has still to call `Step(n)` with (R530, D46); the model's own field (log 2) -/
  hostSteps : List Nat
  /-- the history the controller oracle is applied to, newest first (R95, D22); the model's own field (log 9) -/
  controllerLog : List ControllerEvent
  deriving DecidableEq, Repr

/-- The named faults. No step of the machine raises one in any state: the core has no exception that stops it (R500). -/
inductive Fault where
  /-- I3 of spec/93_implementation_defined.md: a dispatch of bytes the decoder refuses. Raised by `executeInstruction`
  only, and unreachable, because the table is total (R151). Safe: it would stop the machine. -/
  | unhandledOpcode
  /-- R605 (a): the ROM file's magic is wrong, or it is too short to hold a header. Raised by `loadFile`. Safe: no state
  results. -/
  | malformedHeader
  /-- R605 (a): the ROM file is shorter than its header says. Raised by `loadFile`. Safe: no state results. -/
  | truncatedFile
  /-- R605 (b): the mapper id is not 0, the fixed mapper. Raised by `loadFile`. Safe: no state results. -/
  | unsupportedMapper
  /-- R605, D51: p ∉ {1, 2} or c ∉ {0, 1}. Raised by `loadFile`. Safe: no state results. -/
  | unsupportedSize
  deriving DecidableEq, Repr

/-- Why an instruction has no meaning. -/
inductive Refusal where
  /-- Raised by an arm of `exec` for an instruction the model gives no meaning yet; no arm does. Safe: it stops the
  machine. -/
  | notModelled (mnemonic : String)
  deriving DecidableEq, Repr

/-- The outcome of running one instruction. -/
abbrev Result := Host.Outcome State Fault Refusal

/-- What R58 leaves to a parameter at power-on: `MEM_INIT`, `VRAM_INIT`, `OAM_INIT` (D19), the other OPEN parameters, the
host's step sizes, and the two values R58 leaves unspecified until load (PC and the mirroring mode). -/
structure PowerOn where
  memInit : Mem
  vramInit : Mem
  oamInit : Mem
  params : Params
  hostSteps : List Nat
  pc : Addr
  mirroring : Mirroring
  deriving DecidableEq, Repr

/-- Power-on initialisation (R600) gives every piece of state its value of R58. -/
def State.powerOn (q : PowerOn) : State :=
  { a := 0, x := 0, y := 0, sp := 0xFD, pc := q.pc
    p := { c := false, z := false, i := true, d := false, v := false, n := false }
    cycles := 0, stop := false, jammed := false, refused := false
    nmiPending := false, dmaPending := false, dmaSrc := 0, irqLine := false
    mem := q.memInit, mapperRange := ⟨0x8000, 0xFFFF⟩, master := 0
    ppu :=
      { vram := q.vramInit, oam := q.oamInit, ctrl := 0, mask := 0
        vblank := false, sprite0Hit := false, spriteOverflow := false
        oamAddr := 0, ioLatch := 0, readBuffer := 0, t := 0, v := 0, x := 0, w := false
        dot := 0, scanline := 0, frame := 0, done := 0, mirroring := q.mirroring }
    params := q.params, hostSteps := q.hostSteps, controllerLog := [] }

/-- The machine right after reset: power-on (R600) with the OPEN parameters and the host's step sizes uninterpreted
(logs 2, 7), no byte of memory listed (log 3), PC $0000 (log 4) and horizontal mirroring (log 6). -/
def State.reset : State :=
  State.powerOn
    { memInit := [], vramInit := [], oamInit := [], params := Config.params, hostSteps := Config.hostSteps
      pc := 0, mirroring := .horizontal }

end Sys2Proof.Machine
end

