-- ==== Sys2Proof/Machine/Flags.lean ====
section
/-! DEFINITION. Every flag computation: setNZ, the adder, the comparison, the bit test, the shifts and rotates, and the
status byte (spec/00_scope.md R17, spec/10_state.md R36–R39, spec/41_alu.md R260, R261, R270, R277–R280). -/

namespace Sys2Proof.Machine

/-- `setNZ(v)`: "P.Z <- (v == 0); P.N <- v[7]" (R17). -/
def Flags.setNZ (p : Flags) (v : Byte) : Flags := { p with z := v == 0, n := v.getLsbD 7 }

/-- `AddCore(a, m, c)`: the 8-bit sum and the flags after it (R260). -/
def addCore (a m : Byte) (c : Bool) (p : Flags) : Byte × Flags :=
  let wide := a.toNat + m.toNat + c.toNat
  let r := BitVec.ofNat 8 wide
  (r, { p with c := decide (wide > 255), v := ((a ^^^ r) &&& (m ^^^ r)).getLsbD 7 }.setNZ r)

/-- `CompareCore(reg, m)`: V is not changed (R261). -/
def compareCore (reg m : Byte) (p : Flags) : Flags :=
  { p with c := decide (m ≤ reg), z := reg == m, n := (reg - m).getLsbD 7 }

/-- The flags of BIT (R270). -/
def bitTest (a m : Byte) (p : Flags) : Flags :=
  { p with z := a &&& m == 0, n := m.getLsbD 7, v := m.getLsbD 6 }

/-- Shift left: the result, and C from bit 7; N and Z are the caller's (R277). -/
def shiftLeft (v : Byte) (p : Flags) : Byte × Flags := (v <<< 1, { p with c := v.getLsbD 7 })

/-- Logical shift right: C from bit 0 (R278). -/
def shiftRight (v : Byte) (p : Flags) : Byte × Flags := (v >>> 1, { p with c := v.getLsbD 0 })

/-- Rotate left through carry (R279). -/
def rotateLeft (v : Byte) (p : Flags) : Byte × Flags :=
  ((v <<< 1) ||| (BitVec.ofBool p.c).setWidth 8, { p with c := v.getLsbD 7 })

/-- Rotate right through carry (R280). -/
def rotateRight (v : Byte) (p : Flags) : Byte × Flags :=
  ((v >>> 1) ||| ((BitVec.ofBool p.c).setWidth 8 <<< 7), { p with c := v.getLsbD 0 })

/-- `PByte(b4)` = {N, V, 1, b4, D, I, Z, C} (R37). -/
def Flags.pushedByte (p : Flags) (b4 : Bool) : Byte :=
  BitVec.ofBool p.n ++ BitVec.ofBool p.v ++ 1#1 ++ BitVec.ofBool b4 ++
    BitVec.ofBool p.d ++ BitVec.ofBool p.i ++ BitVec.ofBool p.z ++ BitVec.ofBool p.c

/-- `SetP(b)`: all six flags from the pulled byte, whose bits 5:4 are discarded (R38). -/
def Flags.ofPulledByte (b : Byte) : Flags :=
  { c := b.getLsbD 0, z := b.getLsbD 1, i := b.getLsbD 2, d := b.getLsbD 3, v := b.getLsbD 6, n := b.getLsbD 7 }

end Sys2Proof.Machine
end

