-- ==== Sys2Proof/Syntax.lean ====
section
/-! DEFINITION. The instruction syntax: one constructor per row of spec/opcode_table.json, each with exactly the
operand bytes its addressing mode consumes (spec/30_encoding.md R140–R142, R175). The rows with operand bytes come first and
the rows without after them, each in the table's order: Lean's compiler takes no constructor with fields past the 244th. A constructor's name is the
row's mnemonic and mode; where the table has several rows of one mnemonic and mode, the opcode byte follows. -/

namespace Sys2Proof

inductive Instr where
  | oraIndX (z : Byte)
  | sloIndX (z : Byte)
  | nopZp04 (z : Byte)
  | oraZp (z : Byte)
  | aslZp (z : Byte)
  | sloZp (z : Byte)
  | oraImm (k : Byte)
  | ancImm0B (k : Byte)
  | nopAbs (w : Addr)
  | oraAbs (w : Addr)
  | aslAbs (w : Addr)
  | sloAbs (w : Addr)
  | bpl (d : Byte)
  | oraIndY (z : Byte)
  | sloIndY (z : Byte)
  | nopZpX14 (z : Byte)
  | oraZpX (z : Byte)
  | aslZpX (z : Byte)
  | sloZpX (z : Byte)
  | oraAbsY (w : Addr)
  | sloAbsY (w : Addr)
  | nopAbsX1C (w : Addr)
  | oraAbsX (w : Addr)
  | aslAbsX (w : Addr)
  | sloAbsX (w : Addr)
  | jsr (w : Addr)
  | andIndX (z : Byte)
  | rlaIndX (z : Byte)
  | bitZp (z : Byte)
  | andZp (z : Byte)
  | rolZp (z : Byte)
  | rlaZp (z : Byte)
  | andImm (k : Byte)
  | ancImm2B (k : Byte)
  | bitAbs (w : Addr)
  | andAbs (w : Addr)
  | rolAbs (w : Addr)
  | rlaAbs (w : Addr)
  | bmi (d : Byte)
  | andIndY (z : Byte)
  | rlaIndY (z : Byte)
  | nopZpX34 (z : Byte)
  | andZpX (z : Byte)
  | rolZpX (z : Byte)
  | rlaZpX (z : Byte)
  | andAbsY (w : Addr)
  | rlaAbsY (w : Addr)
  | nopAbsX3C (w : Addr)
  | andAbsX (w : Addr)
  | rolAbsX (w : Addr)
  | rlaAbsX (w : Addr)
  | eorIndX (z : Byte)
  | sreIndX (z : Byte)
  | nopZp44 (z : Byte)
  | eorZp (z : Byte)
  | lsrZp (z : Byte)
  | sreZp (z : Byte)
  | eorImm (k : Byte)
  | alrImm (k : Byte)
  | jmpAbs (w : Addr)
  | eorAbs (w : Addr)
  | lsrAbs (w : Addr)
  | sreAbs (w : Addr)
  | bvc (d : Byte)
  | eorIndY (z : Byte)
  | sreIndY (z : Byte)
  | nopZpX54 (z : Byte)
  | eorZpX (z : Byte)
  | lsrZpX (z : Byte)
  | sreZpX (z : Byte)
  | eorAbsY (w : Addr)
  | sreAbsY (w : Addr)
  | nopAbsX5C (w : Addr)
  | eorAbsX (w : Addr)
  | lsrAbsX (w : Addr)
  | sreAbsX (w : Addr)
  | adcIndX (z : Byte)
  | rraIndX (z : Byte)
  | nopZp64 (z : Byte)
  | adcZp (z : Byte)
  | rorZp (z : Byte)
  | rraZp (z : Byte)
  | adcImm (k : Byte)
  | arrImm (k : Byte)
  | jmpInd (w : Addr)
  | adcAbs (w : Addr)
  | rorAbs (w : Addr)
  | rraAbs (w : Addr)
  | bvs (d : Byte)
  | adcIndY (z : Byte)
  | rraIndY (z : Byte)
  | nopZpX74 (z : Byte)
  | adcZpX (z : Byte)
  | rorZpX (z : Byte)
  | rraZpX (z : Byte)
  | adcAbsY (w : Addr)
  | rraAbsY (w : Addr)
  | nopAbsX7C (w : Addr)
  | adcAbsX (w : Addr)
  | rorAbsX (w : Addr)
  | rraAbsX (w : Addr)
  | nopImm80 (k : Byte)
  | staIndX (z : Byte)
  | nopImm82 (k : Byte)
  | saxIndX (z : Byte)
  | styZp (z : Byte)
  | staZp (z : Byte)
  | stxZp (z : Byte)
  | saxZp (z : Byte)
  | nopImm89 (k : Byte)
  | aneImm (k : Byte)
  | styAbs (w : Addr)
  | staAbs (w : Addr)
  | stxAbs (w : Addr)
  | saxAbs (w : Addr)
  | bcc (d : Byte)
  | staIndY (z : Byte)
  | shaIndY (z : Byte)
  | styZpX (z : Byte)
  | staZpX (z : Byte)
  | stxZpY (z : Byte)
  | saxZpY (z : Byte)
  | staAbsY (w : Addr)
  | tasAbsY (w : Addr)
  | shyAbsX (w : Addr)
  | staAbsX (w : Addr)
  | shxAbsY (w : Addr)
  | shaAbsY (w : Addr)
  | ldyImm (k : Byte)
  | ldaIndX (z : Byte)
  | ldxImm (k : Byte)
  | laxIndX (z : Byte)
  | ldyZp (z : Byte)
  | ldaZp (z : Byte)
  | ldxZp (z : Byte)
  | laxZp (z : Byte)
  | ldaImm (k : Byte)
  | lxaImm (k : Byte)
  | ldyAbs (w : Addr)
  | ldaAbs (w : Addr)
  | ldxAbs (w : Addr)
  | laxAbs (w : Addr)
  | bcs (d : Byte)
  | ldaIndY (z : Byte)
  | laxIndY (z : Byte)
  | ldyZpX (z : Byte)
  | ldaZpX (z : Byte)
  | ldxZpY (z : Byte)
  | laxZpY (z : Byte)
  | ldaAbsY (w : Addr)
  | lasAbsY (w : Addr)
  | ldyAbsX (w : Addr)
  | ldaAbsX (w : Addr)
  | ldxAbsY (w : Addr)
  | laxAbsY (w : Addr)
  | cpyImm (k : Byte)
  | cmpIndX (z : Byte)
  | nopImmC2 (k : Byte)
  | dcpIndX (z : Byte)
  | cpyZp (z : Byte)
  | cmpZp (z : Byte)
  | decZp (z : Byte)
  | dcpZp (z : Byte)
  | cmpImm (k : Byte)
  | sbxImm (k : Byte)
  | cpyAbs (w : Addr)
  | cmpAbs (w : Addr)
  | decAbs (w : Addr)
  | dcpAbs (w : Addr)
  | bne (d : Byte)
  | cmpIndY (z : Byte)
  | dcpIndY (z : Byte)
  | nopZpXD4 (z : Byte)
  | cmpZpX (z : Byte)
  | decZpX (z : Byte)
  | dcpZpX (z : Byte)
  | cmpAbsY (w : Addr)
  | dcpAbsY (w : Addr)
  | nopAbsXDC (w : Addr)
  | cmpAbsX (w : Addr)
  | decAbsX (w : Addr)
  | dcpAbsX (w : Addr)
  | cpxImm (k : Byte)
  | sbcIndX (z : Byte)
  | nopImmE2 (k : Byte)
  | iscIndX (z : Byte)
  | cpxZp (z : Byte)
  | sbcZp (z : Byte)
  | incZp (z : Byte)
  | iscZp (z : Byte)
  | sbcImm (k : Byte)
  | usbcImm (k : Byte)
  | cpxAbs (w : Addr)
  | sbcAbs (w : Addr)
  | incAbs (w : Addr)
  | iscAbs (w : Addr)
  | beq (d : Byte)
  | sbcIndY (z : Byte)
  | iscIndY (z : Byte)
  | nopZpXF4 (z : Byte)
  | sbcZpX (z : Byte)
  | incZpX (z : Byte)
  | iscZpX (z : Byte)
  | sbcAbsY (w : Addr)
  | iscAbsY (w : Addr)
  | nopAbsXFC (w : Addr)
  | sbcAbsX (w : Addr)
  | incAbsX (w : Addr)
  | iscAbsX (w : Addr)
  | brk
  | jam02
  | php
  | aslAcc
  | jam12
  | clc
  | nop1A
  | jam22
  | plp
  | rolAcc
  | jam32
  | sec
  | nop3A
  | rti
  | jam42
  | pha
  | lsrAcc
  | jam52
  | cli
  | nop5A
  | rts
  | jam62
  | pla
  | rorAcc
  | jam72
  | sei
  | nop7A
  | dey
  | txa
  | jam92
  | tya
  | txs
  | tay
  | tax
  | jamB2
  | clv
  | tsx
  | iny
  | dex
  | jamD2
  | cld
  | nopDA
  | inx
  | nop
  | jamF2
  | sed
  | nopFA
  deriving DecidableEq, Repr

end Sys2Proof
end

