-- ==== Sys2Proof/WellFormed.lean ====
section
/-! DEFINITION. Well-formedness. An instruction is well formed by its type: each constructor carries exactly the operand
bytes of its row, and no operand value is reserved (spec/30_encoding.md R182). The checks that can fail are those on what
a mapper supplies. -/

namespace Sys2Proof

/-- R182: "Operand bytes are never reserved: every value of an operand byte is meaningful." -/
def Instr.wellFormed : Instr → Bool := fun _ => true

/-- R91: `MAPPER_RANGE` is required to be disjoint from $0000–$401F; a range also has its ends in order. -/
def AddrRange.wellFormed (r : AddrRange) : Bool :=
  decide (0x4020#16 ≤ r.first) && decide (r.first ≤ r.last)

/-- R602: the program image is 16,384 × p bytes with p ∈ {1, 2}, the graphics image 8,192 × c bytes with c ∈ {0, 1}. -/
def Cartridge.wellFormed (c : Cartridge) : Bool :=
  (c.prg.length == 16384 || c.prg.length == 32768) && (c.chr.length == 0 || c.chr.length == 8192)

end Sys2Proof
end

