-- ==== Sys2Proof/Decode.lean ====
section
/-! DEFINITION. The opcode table, the decoder and the encoder (spec/30_encoding.md R140–R175, spec/opcode_table.json), and
the byte-order helpers they share with the machine (spec/20_memory.md R100). -/

namespace Sys2Proof

/-- `lo(a)` = a[7:0] (R14). -/
def lo (a : Addr) : Byte := a.extractLsb' 0 8

/-- `hi(a)` = a[15:8] (R14). -/
def hi (a : Addr) : Byte := a.extractLsb' 8 8

/-- `{h, l}` (R13). -/
def word16 (h l : Byte) : Addr := h ++ l

/-- `zext_16(v)` (R14). -/
def zext16 (v : Byte) : Addr := v.setWidth 16

/-- `sext_8(d)`: the 16-bit sign extension of d (R14). -/
def sext16 (d : Byte) : Addr := d.signExtend 16

/-- The 13 addressing modes (R160, R161–R173, C1). -/
inductive Mode where
  | implied
  | accumulator
  | immediate
  | zeroPage
  | zeroPageX
  | zeroPageY
  | absolute
  | absoluteX
  | absoluteY
  | indirect
  | indexedIndirect
  | indirectIndexed
  | relative
  deriving DecidableEq, Repr

/-- An addressing mode with the operand bytes it consumed; a two-byte operand is the 16-bit value `{hi, lo}` (R141). -/
inductive Operand where
  | implied
  | accumulator
  | immediate (k : Byte)
  | zeroPage (z : Byte)
  | zeroPageX (z : Byte)
  | zeroPageY (z : Byte)
  | absolute (w : Addr)
  | absoluteX (w : Addr)
  | absoluteY (w : Addr)
  | indirect (w : Addr)
  | indexedIndirect (z : Byte)
  | indirectIndexed (z : Byte)
  | relative (d : Byte)
  deriving DecidableEq, Repr

/-- R142: "The operand bytes per mode". -/
def Mode.operandBytes : Mode → Nat
  | .implied => 0
  | .accumulator => 0
  | .immediate => 1
  | .zeroPage => 1
  | .zeroPageX => 1
  | .zeroPageY => 1
  | .absolute => 2
  | .absoluteX => 2
  | .absoluteY => 2
  | .indirect => 2
  | .indexedIndirect => 1
  | .indirectIndexed => 1
  | .relative => 1

def Operand.mode : Operand → Mode
  | .implied => .implied
  | .accumulator => .accumulator
  | .immediate _ => .immediate
  | .zeroPage _ => .zeroPage
  | .zeroPageX _ => .zeroPageX
  | .zeroPageY _ => .zeroPageY
  | .absolute _ => .absolute
  | .absoluteX _ => .absoluteX
  | .absoluteY _ => .absoluteY
  | .indirect _ => .indirect
  | .indexedIndirect _ => .indexedIndirect
  | .indirectIndexed _ => .indirectIndexed
  | .relative _ => .relative

/-- The operand bytes in the order they stand in memory: a 16-bit operand is little-endian (R141, R100). -/
def Operand.bytes : Operand → List Byte
  | .implied => []
  | .accumulator => []
  | .immediate k => [k]
  | .zeroPage z => [z]
  | .zeroPageX z => [z]
  | .zeroPageY z => [z]
  | .absolute w => [lo w, hi w]
  | .absoluteX w => [lo w, hi w]
  | .absoluteY w => [lo w, hi w]
  | .indirect w => [lo w, hi w]
  | .indexedIndirect z => [z]
  | .indirectIndexed z => [z]
  | .relative d => [d]

/-- A row of the opcode table: "mnemonic identity, addressing mode, byte length, and base cycle count", the
`page_penalty` column and whether the opcode is legal (R143). The length is `1 + mode.operandBytes` (R142). -/
structure OpRow where
  mnemonic : String
  mode : Mode
  cycles : Nat
  pagePenalty : Bool
  legal : Bool
  deriving DecidableEq, Repr

def OpRow.length (r : OpRow) : Nat := 1 + r.mode.operandBytes

/-- Opcodes $00–$0F (R175). -/
def opRows0 : List OpRow :=
  [ ⟨"BRK", .implied, 7, false, true⟩
  , ⟨"ORA", .indexedIndirect, 6, false, true⟩
  , ⟨"JAM", .implied, 2, false, false⟩
  , ⟨"SLO", .indexedIndirect, 8, false, false⟩
  , ⟨"NOP", .zeroPage, 3, false, false⟩
  , ⟨"ORA", .zeroPage, 3, false, true⟩
  , ⟨"ASL", .zeroPage, 5, false, true⟩
  , ⟨"SLO", .zeroPage, 5, false, false⟩
  , ⟨"PHP", .implied, 3, false, true⟩
  , ⟨"ORA", .immediate, 2, false, true⟩
  , ⟨"ASL", .accumulator, 2, false, true⟩
  , ⟨"ANC", .immediate, 2, false, false⟩
  , ⟨"NOP", .absolute, 4, false, false⟩
  , ⟨"ORA", .absolute, 4, false, true⟩
  , ⟨"ASL", .absolute, 6, false, true⟩
  , ⟨"SLO", .absolute, 6, false, false⟩ ]

/-- Opcodes $10–$1F (R175). -/
def opRows1 : List OpRow :=
  [ ⟨"BPL", .relative, 2, false, true⟩
  , ⟨"ORA", .indirectIndexed, 5, true, true⟩
  , ⟨"JAM", .implied, 2, false, false⟩
  , ⟨"SLO", .indirectIndexed, 8, false, false⟩
  , ⟨"NOP", .zeroPageX, 4, false, false⟩
  , ⟨"ORA", .zeroPageX, 4, false, true⟩
  , ⟨"ASL", .zeroPageX, 6, false, true⟩
  , ⟨"SLO", .zeroPageX, 6, false, false⟩
  , ⟨"CLC", .implied, 2, false, true⟩
  , ⟨"ORA", .absoluteY, 4, true, true⟩
  , ⟨"NOP", .implied, 2, false, false⟩
  , ⟨"SLO", .absoluteY, 7, false, false⟩
  , ⟨"NOP", .absoluteX, 4, true, false⟩
  , ⟨"ORA", .absoluteX, 4, true, true⟩
  , ⟨"ASL", .absoluteX, 7, false, true⟩
  , ⟨"SLO", .absoluteX, 7, false, false⟩ ]

/-- Opcodes $20–$2F (R175). -/
def opRows2 : List OpRow :=
  [ ⟨"JSR", .absolute, 6, false, true⟩
  , ⟨"AND", .indexedIndirect, 6, false, true⟩
  , ⟨"JAM", .implied, 2, false, false⟩
  , ⟨"RLA", .indexedIndirect, 8, false, false⟩
  , ⟨"BIT", .zeroPage, 3, false, true⟩
  , ⟨"AND", .zeroPage, 3, false, true⟩
  , ⟨"ROL", .zeroPage, 5, false, true⟩
  , ⟨"RLA", .zeroPage, 5, false, false⟩
  , ⟨"PLP", .implied, 4, false, true⟩
  , ⟨"AND", .immediate, 2, false, true⟩
  , ⟨"ROL", .accumulator, 2, false, true⟩
  , ⟨"ANC", .immediate, 2, false, false⟩
  , ⟨"BIT", .absolute, 4, false, true⟩
  , ⟨"AND", .absolute, 4, false, true⟩
  , ⟨"ROL", .absolute, 6, false, true⟩
  , ⟨"RLA", .absolute, 6, false, false⟩ ]

/-- Opcodes $30–$3F (R175). -/
def opRows3 : List OpRow :=
  [ ⟨"BMI", .relative, 2, false, true⟩
  , ⟨"AND", .indirectIndexed, 5, true, true⟩
  , ⟨"JAM", .implied, 2, false, false⟩
  , ⟨"RLA", .indirectIndexed, 8, false, false⟩
  , ⟨"NOP", .zeroPageX, 4, false, false⟩
  , ⟨"AND", .zeroPageX, 4, false, true⟩
  , ⟨"ROL", .zeroPageX, 6, false, true⟩
  , ⟨"RLA", .zeroPageX, 6, false, false⟩
  , ⟨"SEC", .implied, 2, false, true⟩
  , ⟨"AND", .absoluteY, 4, true, true⟩
  , ⟨"NOP", .implied, 2, false, false⟩
  , ⟨"RLA", .absoluteY, 7, false, false⟩
  , ⟨"NOP", .absoluteX, 4, true, false⟩
  , ⟨"AND", .absoluteX, 4, true, true⟩
  , ⟨"ROL", .absoluteX, 7, false, true⟩
  , ⟨"RLA", .absoluteX, 7, false, false⟩ ]

/-- Opcodes $40–$4F (R175). -/
def opRows4 : List OpRow :=
  [ ⟨"RTI", .implied, 6, false, true⟩
  , ⟨"EOR", .indexedIndirect, 6, false, true⟩
  , ⟨"JAM", .implied, 2, false, false⟩
  , ⟨"SRE", .indexedIndirect, 8, false, false⟩
  , ⟨"NOP", .zeroPage, 3, false, false⟩
  , ⟨"EOR", .zeroPage, 3, false, true⟩
  , ⟨"LSR", .zeroPage, 5, false, true⟩
  , ⟨"SRE", .zeroPage, 5, false, false⟩
  , ⟨"PHA", .implied, 3, false, true⟩
  , ⟨"EOR", .immediate, 2, false, true⟩
  , ⟨"LSR", .accumulator, 2, false, true⟩
  , ⟨"ALR", .immediate, 2, false, false⟩
  , ⟨"JMP", .absolute, 3, false, true⟩
  , ⟨"EOR", .absolute, 4, false, true⟩
  , ⟨"LSR", .absolute, 6, false, true⟩
  , ⟨"SRE", .absolute, 6, false, false⟩ ]

/-- Opcodes $50–$5F (R175). -/
def opRows5 : List OpRow :=
  [ ⟨"BVC", .relative, 2, false, true⟩
  , ⟨"EOR", .indirectIndexed, 5, true, true⟩
  , ⟨"JAM", .implied, 2, false, false⟩
  , ⟨"SRE", .indirectIndexed, 8, false, false⟩
  , ⟨"NOP", .zeroPageX, 4, false, false⟩
  , ⟨"EOR", .zeroPageX, 4, false, true⟩
  , ⟨"LSR", .zeroPageX, 6, false, true⟩
  , ⟨"SRE", .zeroPageX, 6, false, false⟩
  , ⟨"CLI", .implied, 2, false, true⟩
  , ⟨"EOR", .absoluteY, 4, true, true⟩
  , ⟨"NOP", .implied, 2, false, false⟩
  , ⟨"SRE", .absoluteY, 7, false, false⟩
  , ⟨"NOP", .absoluteX, 4, true, false⟩
  , ⟨"EOR", .absoluteX, 4, true, true⟩
  , ⟨"LSR", .absoluteX, 7, false, true⟩
  , ⟨"SRE", .absoluteX, 7, false, false⟩ ]

/-- Opcodes $60–$6F (R175). -/
def opRows6 : List OpRow :=
  [ ⟨"RTS", .implied, 6, false, true⟩
  , ⟨"ADC", .indexedIndirect, 6, false, true⟩
  , ⟨"JAM", .implied, 2, false, false⟩
  , ⟨"RRA", .indexedIndirect, 8, false, false⟩
  , ⟨"NOP", .zeroPage, 3, false, false⟩
  , ⟨"ADC", .zeroPage, 3, false, true⟩
  , ⟨"ROR", .zeroPage, 5, false, true⟩
  , ⟨"RRA", .zeroPage, 5, false, false⟩
  , ⟨"PLA", .implied, 4, false, true⟩
  , ⟨"ADC", .immediate, 2, false, true⟩
  , ⟨"ROR", .accumulator, 2, false, true⟩
  , ⟨"ARR", .immediate, 2, false, false⟩
  , ⟨"JMP", .indirect, 5, false, true⟩
  , ⟨"ADC", .absolute, 4, false, true⟩
  , ⟨"ROR", .absolute, 6, false, true⟩
  , ⟨"RRA", .absolute, 6, false, false⟩ ]

/-- Opcodes $70–$7F (R175). -/
def opRows7 : List OpRow :=
  [ ⟨"BVS", .relative, 2, false, true⟩
  , ⟨"ADC", .indirectIndexed, 5, true, true⟩
  , ⟨"JAM", .implied, 2, false, false⟩
  , ⟨"RRA", .indirectIndexed, 8, false, false⟩
  , ⟨"NOP", .zeroPageX, 4, false, false⟩
  , ⟨"ADC", .zeroPageX, 4, false, true⟩
  , ⟨"ROR", .zeroPageX, 6, false, true⟩
  , ⟨"RRA", .zeroPageX, 6, false, false⟩
  , ⟨"SEI", .implied, 2, false, true⟩
  , ⟨"ADC", .absoluteY, 4, true, true⟩
  , ⟨"NOP", .implied, 2, false, false⟩
  , ⟨"RRA", .absoluteY, 7, false, false⟩
  , ⟨"NOP", .absoluteX, 4, true, false⟩
  , ⟨"ADC", .absoluteX, 4, true, true⟩
  , ⟨"ROR", .absoluteX, 7, false, true⟩
  , ⟨"RRA", .absoluteX, 7, false, false⟩ ]

/-- Opcodes $80–$8F (R175). -/
def opRows8 : List OpRow :=
  [ ⟨"NOP", .immediate, 2, false, false⟩
  , ⟨"STA", .indexedIndirect, 6, false, true⟩
  , ⟨"NOP", .immediate, 2, false, false⟩
  , ⟨"SAX", .indexedIndirect, 6, false, false⟩
  , ⟨"STY", .zeroPage, 3, false, true⟩
  , ⟨"STA", .zeroPage, 3, false, true⟩
  , ⟨"STX", .zeroPage, 3, false, true⟩
  , ⟨"SAX", .zeroPage, 3, false, false⟩
  , ⟨"DEY", .implied, 2, false, true⟩
  , ⟨"NOP", .immediate, 2, false, false⟩
  , ⟨"TXA", .implied, 2, false, true⟩
  , ⟨"ANE", .immediate, 2, false, false⟩
  , ⟨"STY", .absolute, 4, false, true⟩
  , ⟨"STA", .absolute, 4, false, true⟩
  , ⟨"STX", .absolute, 4, false, true⟩
  , ⟨"SAX", .absolute, 4, false, false⟩ ]

/-- Opcodes $90–$9F (R175). -/
def opRows9 : List OpRow :=
  [ ⟨"BCC", .relative, 2, false, true⟩
  , ⟨"STA", .indirectIndexed, 6, false, true⟩
  , ⟨"JAM", .implied, 2, false, false⟩
  , ⟨"SHA", .indirectIndexed, 6, false, false⟩
  , ⟨"STY", .zeroPageX, 4, false, true⟩
  , ⟨"STA", .zeroPageX, 4, false, true⟩
  , ⟨"STX", .zeroPageY, 4, false, true⟩
  , ⟨"SAX", .zeroPageY, 4, false, false⟩
  , ⟨"TYA", .implied, 2, false, true⟩
  , ⟨"STA", .absoluteY, 5, false, true⟩
  , ⟨"TXS", .implied, 2, false, true⟩
  , ⟨"TAS", .absoluteY, 5, false, false⟩
  , ⟨"SHY", .absoluteX, 5, false, false⟩
  , ⟨"STA", .absoluteX, 5, false, true⟩
  , ⟨"SHX", .absoluteY, 5, false, false⟩
  , ⟨"SHA", .absoluteY, 5, false, false⟩ ]

/-- Opcodes $A0–$AF (R175). -/
def opRowsA : List OpRow :=
  [ ⟨"LDY", .immediate, 2, false, true⟩
  , ⟨"LDA", .indexedIndirect, 6, false, true⟩
  , ⟨"LDX", .immediate, 2, false, true⟩
  , ⟨"LAX", .indexedIndirect, 6, false, false⟩
  , ⟨"LDY", .zeroPage, 3, false, true⟩
  , ⟨"LDA", .zeroPage, 3, false, true⟩
  , ⟨"LDX", .zeroPage, 3, false, true⟩
  , ⟨"LAX", .zeroPage, 3, false, false⟩
  , ⟨"TAY", .implied, 2, false, true⟩
  , ⟨"LDA", .immediate, 2, false, true⟩
  , ⟨"TAX", .implied, 2, false, true⟩
  , ⟨"LXA", .immediate, 2, false, false⟩
  , ⟨"LDY", .absolute, 4, false, true⟩
  , ⟨"LDA", .absolute, 4, false, true⟩
  , ⟨"LDX", .absolute, 4, false, true⟩
  , ⟨"LAX", .absolute, 4, false, false⟩ ]

/-- Opcodes $B0–$BF (R175). -/
def opRowsB : List OpRow :=
  [ ⟨"BCS", .relative, 2, false, true⟩
  , ⟨"LDA", .indirectIndexed, 5, true, true⟩
  , ⟨"JAM", .implied, 2, false, false⟩
  , ⟨"LAX", .indirectIndexed, 5, true, false⟩
  , ⟨"LDY", .zeroPageX, 4, false, true⟩
  , ⟨"LDA", .zeroPageX, 4, false, true⟩
  , ⟨"LDX", .zeroPageY, 4, false, true⟩
  , ⟨"LAX", .zeroPageY, 4, false, false⟩
  , ⟨"CLV", .implied, 2, false, true⟩
  , ⟨"LDA", .absoluteY, 4, true, true⟩
  , ⟨"TSX", .implied, 2, false, true⟩
  , ⟨"LAS", .absoluteY, 4, true, false⟩
  , ⟨"LDY", .absoluteX, 4, true, true⟩
  , ⟨"LDA", .absoluteX, 4, true, true⟩
  , ⟨"LDX", .absoluteY, 4, true, true⟩
  , ⟨"LAX", .absoluteY, 4, true, false⟩ ]

/-- Opcodes $C0–$CF (R175). -/
def opRowsC : List OpRow :=
  [ ⟨"CPY", .immediate, 2, false, true⟩
  , ⟨"CMP", .indexedIndirect, 6, false, true⟩
  , ⟨"NOP", .immediate, 2, false, false⟩
  , ⟨"DCP", .indexedIndirect, 8, false, false⟩
  , ⟨"CPY", .zeroPage, 3, false, true⟩
  , ⟨"CMP", .zeroPage, 3, false, true⟩
  , ⟨"DEC", .zeroPage, 5, false, true⟩
  , ⟨"DCP", .zeroPage, 5, false, false⟩
  , ⟨"INY", .implied, 2, false, true⟩
  , ⟨"CMP", .immediate, 2, false, true⟩
  , ⟨"DEX", .implied, 2, false, true⟩
  , ⟨"SBX", .immediate, 2, false, false⟩
  , ⟨"CPY", .absolute, 4, false, true⟩
  , ⟨"CMP", .absolute, 4, false, true⟩
  , ⟨"DEC", .absolute, 6, false, true⟩
  , ⟨"DCP", .absolute, 6, false, false⟩ ]

/-- Opcodes $D0–$DF (R175). -/
def opRowsD : List OpRow :=
  [ ⟨"BNE", .relative, 2, false, true⟩
  , ⟨"CMP", .indirectIndexed, 5, true, true⟩
  , ⟨"JAM", .implied, 2, false, false⟩
  , ⟨"DCP", .indirectIndexed, 8, false, false⟩
  , ⟨"NOP", .zeroPageX, 4, false, false⟩
  , ⟨"CMP", .zeroPageX, 4, false, true⟩
  , ⟨"DEC", .zeroPageX, 6, false, true⟩
  , ⟨"DCP", .zeroPageX, 6, false, false⟩
  , ⟨"CLD", .implied, 2, false, true⟩
  , ⟨"CMP", .absoluteY, 4, true, true⟩
  , ⟨"NOP", .implied, 2, false, false⟩
  , ⟨"DCP", .absoluteY, 7, false, false⟩
  , ⟨"NOP", .absoluteX, 4, true, false⟩
  , ⟨"CMP", .absoluteX, 4, true, true⟩
  , ⟨"DEC", .absoluteX, 7, false, true⟩
  , ⟨"DCP", .absoluteX, 7, false, false⟩ ]

/-- Opcodes $E0–$EF (R175). -/
def opRowsE : List OpRow :=
  [ ⟨"CPX", .immediate, 2, false, true⟩
  , ⟨"SBC", .indexedIndirect, 6, false, true⟩
  , ⟨"NOP", .immediate, 2, false, false⟩
  , ⟨"ISC", .indexedIndirect, 8, false, false⟩
  , ⟨"CPX", .zeroPage, 3, false, true⟩
  , ⟨"SBC", .zeroPage, 3, false, true⟩
  , ⟨"INC", .zeroPage, 5, false, true⟩
  , ⟨"ISC", .zeroPage, 5, false, false⟩
  , ⟨"INX", .implied, 2, false, true⟩
  , ⟨"SBC", .immediate, 2, false, true⟩
  , ⟨"NOP", .implied, 2, false, true⟩
  , ⟨"USBC", .immediate, 2, false, false⟩
  , ⟨"CPX", .absolute, 4, false, true⟩
  , ⟨"SBC", .absolute, 4, false, true⟩
  , ⟨"INC", .absolute, 6, false, true⟩
  , ⟨"ISC", .absolute, 6, false, false⟩ ]

/-- Opcodes $F0–$FF (R175). -/
def opRowsF : List OpRow :=
  [ ⟨"BEQ", .relative, 2, false, true⟩
  , ⟨"SBC", .indirectIndexed, 5, true, true⟩
  , ⟨"JAM", .implied, 2, false, false⟩
  , ⟨"ISC", .indirectIndexed, 8, false, false⟩
  , ⟨"NOP", .zeroPageX, 4, false, false⟩
  , ⟨"SBC", .zeroPageX, 4, false, true⟩
  , ⟨"INC", .zeroPageX, 6, false, true⟩
  , ⟨"ISC", .zeroPageX, 6, false, false⟩
  , ⟨"SED", .implied, 2, false, true⟩
  , ⟨"SBC", .absoluteY, 4, true, true⟩
  , ⟨"NOP", .implied, 2, false, false⟩
  , ⟨"ISC", .absoluteY, 7, false, false⟩
  , ⟨"NOP", .absoluteX, 4, true, false⟩
  , ⟨"SBC", .absoluteX, 4, true, true⟩
  , ⟨"INC", .absoluteX, 7, false, true⟩
  , ⟨"ISC", .absoluteX, 7, false, false⟩ ]

/-- The complete opcode table, indexed by the opcode byte (R175). -/
def opTable : List OpRow :=
  opRows0 ++ opRows1 ++ opRows2 ++ opRows3 ++ opRows4 ++ opRows5 ++ opRows6 ++ opRows7 ++
  opRows8 ++ opRows9 ++ opRowsA ++ opRowsB ++ opRowsC ++ opRowsD ++ opRowsE ++ opRowsF

/-- `TABLE[op]` (R150). The table has 256 rows, so the default is never taken. -/
def opRow (op : Byte) : OpRow := opTable.getD op.toNat ⟨"", .implied, 0, false, false⟩

/-- What opcodes $00–$0F make of their two following bytes (R175, R141). -/
def builders0 : List (Byte → Byte → Instr) :=
  [ fun _ _ => .brk
  , fun b _ => .oraIndX b
  , fun _ _ => .jam02
  , fun b _ => .sloIndX b
  , fun b _ => .nopZp04 b
  , fun b _ => .oraZp b
  , fun b _ => .aslZp b
  , fun b _ => .sloZp b
  , fun _ _ => .php
  , fun b _ => .oraImm b
  , fun _ _ => .aslAcc
  , fun b _ => .ancImm0B b
  , fun b c => .nopAbs (word16 c b)
  , fun b c => .oraAbs (word16 c b)
  , fun b c => .aslAbs (word16 c b)
  , fun b c => .sloAbs (word16 c b) ]

/-- What opcodes $10–$1F make of their two following bytes (R175, R141). -/
def builders1 : List (Byte → Byte → Instr) :=
  [ fun b _ => .bpl b
  , fun b _ => .oraIndY b
  , fun _ _ => .jam12
  , fun b _ => .sloIndY b
  , fun b _ => .nopZpX14 b
  , fun b _ => .oraZpX b
  , fun b _ => .aslZpX b
  , fun b _ => .sloZpX b
  , fun _ _ => .clc
  , fun b c => .oraAbsY (word16 c b)
  , fun _ _ => .nop1A
  , fun b c => .sloAbsY (word16 c b)
  , fun b c => .nopAbsX1C (word16 c b)
  , fun b c => .oraAbsX (word16 c b)
  , fun b c => .aslAbsX (word16 c b)
  , fun b c => .sloAbsX (word16 c b) ]

/-- What opcodes $20–$2F make of their two following bytes (R175, R141). -/
def builders2 : List (Byte → Byte → Instr) :=
  [ fun b c => .jsr (word16 c b)
  , fun b _ => .andIndX b
  , fun _ _ => .jam22
  , fun b _ => .rlaIndX b
  , fun b _ => .bitZp b
  , fun b _ => .andZp b
  , fun b _ => .rolZp b
  , fun b _ => .rlaZp b
  , fun _ _ => .plp
  , fun b _ => .andImm b
  , fun _ _ => .rolAcc
  , fun b _ => .ancImm2B b
  , fun b c => .bitAbs (word16 c b)
  , fun b c => .andAbs (word16 c b)
  , fun b c => .rolAbs (word16 c b)
  , fun b c => .rlaAbs (word16 c b) ]

/-- What opcodes $30–$3F make of their two following bytes (R175, R141). -/
def builders3 : List (Byte → Byte → Instr) :=
  [ fun b _ => .bmi b
  , fun b _ => .andIndY b
  , fun _ _ => .jam32
  , fun b _ => .rlaIndY b
  , fun b _ => .nopZpX34 b
  , fun b _ => .andZpX b
  , fun b _ => .rolZpX b
  , fun b _ => .rlaZpX b
  , fun _ _ => .sec
  , fun b c => .andAbsY (word16 c b)
  , fun _ _ => .nop3A
  , fun b c => .rlaAbsY (word16 c b)
  , fun b c => .nopAbsX3C (word16 c b)
  , fun b c => .andAbsX (word16 c b)
  , fun b c => .rolAbsX (word16 c b)
  , fun b c => .rlaAbsX (word16 c b) ]

/-- What opcodes $40–$4F make of their two following bytes (R175, R141). -/
def builders4 : List (Byte → Byte → Instr) :=
  [ fun _ _ => .rti
  , fun b _ => .eorIndX b
  , fun _ _ => .jam42
  , fun b _ => .sreIndX b
  , fun b _ => .nopZp44 b
  , fun b _ => .eorZp b
  , fun b _ => .lsrZp b
  , fun b _ => .sreZp b
  , fun _ _ => .pha
  , fun b _ => .eorImm b
  , fun _ _ => .lsrAcc
  , fun b _ => .alrImm b
  , fun b c => .jmpAbs (word16 c b)
  , fun b c => .eorAbs (word16 c b)
  , fun b c => .lsrAbs (word16 c b)
  , fun b c => .sreAbs (word16 c b) ]

/-- What opcodes $50–$5F make of their two following bytes (R175, R141). -/
def builders5 : List (Byte → Byte → Instr) :=
  [ fun b _ => .bvc b
  , fun b _ => .eorIndY b
  , fun _ _ => .jam52
  , fun b _ => .sreIndY b
  , fun b _ => .nopZpX54 b
  , fun b _ => .eorZpX b
  , fun b _ => .lsrZpX b
  , fun b _ => .sreZpX b
  , fun _ _ => .cli
  , fun b c => .eorAbsY (word16 c b)
  , fun _ _ => .nop5A
  , fun b c => .sreAbsY (word16 c b)
  , fun b c => .nopAbsX5C (word16 c b)
  , fun b c => .eorAbsX (word16 c b)
  , fun b c => .lsrAbsX (word16 c b)
  , fun b c => .sreAbsX (word16 c b) ]

/-- What opcodes $60–$6F make of their two following bytes (R175, R141). -/
def builders6 : List (Byte → Byte → Instr) :=
  [ fun _ _ => .rts
  , fun b _ => .adcIndX b
  , fun _ _ => .jam62
  , fun b _ => .rraIndX b
  , fun b _ => .nopZp64 b
  , fun b _ => .adcZp b
  , fun b _ => .rorZp b
  , fun b _ => .rraZp b
  , fun _ _ => .pla
  , fun b _ => .adcImm b
  , fun _ _ => .rorAcc
  , fun b _ => .arrImm b
  , fun b c => .jmpInd (word16 c b)
  , fun b c => .adcAbs (word16 c b)
  , fun b c => .rorAbs (word16 c b)
  , fun b c => .rraAbs (word16 c b) ]

/-- What opcodes $70–$7F make of their two following bytes (R175, R141). -/
def builders7 : List (Byte → Byte → Instr) :=
  [ fun b _ => .bvs b
  , fun b _ => .adcIndY b
  , fun _ _ => .jam72
  , fun b _ => .rraIndY b
  , fun b _ => .nopZpX74 b
  , fun b _ => .adcZpX b
  , fun b _ => .rorZpX b
  , fun b _ => .rraZpX b
  , fun _ _ => .sei
  , fun b c => .adcAbsY (word16 c b)
  , fun _ _ => .nop7A
  , fun b c => .rraAbsY (word16 c b)
  , fun b c => .nopAbsX7C (word16 c b)
  , fun b c => .adcAbsX (word16 c b)
  , fun b c => .rorAbsX (word16 c b)
  , fun b c => .rraAbsX (word16 c b) ]

/-- What opcodes $80–$8F make of their two following bytes (R175, R141). -/
def builders8 : List (Byte → Byte → Instr) :=
  [ fun b _ => .nopImm80 b
  , fun b _ => .staIndX b
  , fun b _ => .nopImm82 b
  , fun b _ => .saxIndX b
  , fun b _ => .styZp b
  , fun b _ => .staZp b
  , fun b _ => .stxZp b
  , fun b _ => .saxZp b
  , fun _ _ => .dey
  , fun b _ => .nopImm89 b
  , fun _ _ => .txa
  , fun b _ => .aneImm b
  , fun b c => .styAbs (word16 c b)
  , fun b c => .staAbs (word16 c b)
  , fun b c => .stxAbs (word16 c b)
  , fun b c => .saxAbs (word16 c b) ]

/-- What opcodes $90–$9F make of their two following bytes (R175, R141). -/
def builders9 : List (Byte → Byte → Instr) :=
  [ fun b _ => .bcc b
  , fun b _ => .staIndY b
  , fun _ _ => .jam92
  , fun b _ => .shaIndY b
  , fun b _ => .styZpX b
  , fun b _ => .staZpX b
  , fun b _ => .stxZpY b
  , fun b _ => .saxZpY b
  , fun _ _ => .tya
  , fun b c => .staAbsY (word16 c b)
  , fun _ _ => .txs
  , fun b c => .tasAbsY (word16 c b)
  , fun b c => .shyAbsX (word16 c b)
  , fun b c => .staAbsX (word16 c b)
  , fun b c => .shxAbsY (word16 c b)
  , fun b c => .shaAbsY (word16 c b) ]

/-- What opcodes $A0–$AF make of their two following bytes (R175, R141). -/
def buildersA : List (Byte → Byte → Instr) :=
  [ fun b _ => .ldyImm b
  , fun b _ => .ldaIndX b
  , fun b _ => .ldxImm b
  , fun b _ => .laxIndX b
  , fun b _ => .ldyZp b
  , fun b _ => .ldaZp b
  , fun b _ => .ldxZp b
  , fun b _ => .laxZp b
  , fun _ _ => .tay
  , fun b _ => .ldaImm b
  , fun _ _ => .tax
  , fun b _ => .lxaImm b
  , fun b c => .ldyAbs (word16 c b)
  , fun b c => .ldaAbs (word16 c b)
  , fun b c => .ldxAbs (word16 c b)
  , fun b c => .laxAbs (word16 c b) ]

/-- What opcodes $B0–$BF make of their two following bytes (R175, R141). -/
def buildersB : List (Byte → Byte → Instr) :=
  [ fun b _ => .bcs b
  , fun b _ => .ldaIndY b
  , fun _ _ => .jamB2
  , fun b _ => .laxIndY b
  , fun b _ => .ldyZpX b
  , fun b _ => .ldaZpX b
  , fun b _ => .ldxZpY b
  , fun b _ => .laxZpY b
  , fun _ _ => .clv
  , fun b c => .ldaAbsY (word16 c b)
  , fun _ _ => .tsx
  , fun b c => .lasAbsY (word16 c b)
  , fun b c => .ldyAbsX (word16 c b)
  , fun b c => .ldaAbsX (word16 c b)
  , fun b c => .ldxAbsY (word16 c b)
  , fun b c => .laxAbsY (word16 c b) ]

/-- What opcodes $C0–$CF make of their two following bytes (R175, R141). -/
def buildersC : List (Byte → Byte → Instr) :=
  [ fun b _ => .cpyImm b
  , fun b _ => .cmpIndX b
  , fun b _ => .nopImmC2 b
  , fun b _ => .dcpIndX b
  , fun b _ => .cpyZp b
  , fun b _ => .cmpZp b
  , fun b _ => .decZp b
  , fun b _ => .dcpZp b
  , fun _ _ => .iny
  , fun b _ => .cmpImm b
  , fun _ _ => .dex
  , fun b _ => .sbxImm b
  , fun b c => .cpyAbs (word16 c b)
  , fun b c => .cmpAbs (word16 c b)
  , fun b c => .decAbs (word16 c b)
  , fun b c => .dcpAbs (word16 c b) ]

/-- What opcodes $D0–$DF make of their two following bytes (R175, R141). -/
def buildersD : List (Byte → Byte → Instr) :=
  [ fun b _ => .bne b
  , fun b _ => .cmpIndY b
  , fun _ _ => .jamD2
  , fun b _ => .dcpIndY b
  , fun b _ => .nopZpXD4 b
  , fun b _ => .cmpZpX b
  , fun b _ => .decZpX b
  , fun b _ => .dcpZpX b
  , fun _ _ => .cld
  , fun b c => .cmpAbsY (word16 c b)
  , fun _ _ => .nopDA
  , fun b c => .dcpAbsY (word16 c b)
  , fun b c => .nopAbsXDC (word16 c b)
  , fun b c => .cmpAbsX (word16 c b)
  , fun b c => .decAbsX (word16 c b)
  , fun b c => .dcpAbsX (word16 c b) ]

/-- What opcodes $E0–$EF make of their two following bytes (R175, R141). -/
def buildersE : List (Byte → Byte → Instr) :=
  [ fun b _ => .cpxImm b
  , fun b _ => .sbcIndX b
  , fun b _ => .nopImmE2 b
  , fun b _ => .iscIndX b
  , fun b _ => .cpxZp b
  , fun b _ => .sbcZp b
  , fun b _ => .incZp b
  , fun b _ => .iscZp b
  , fun _ _ => .inx
  , fun b _ => .sbcImm b
  , fun _ _ => .nop
  , fun b _ => .usbcImm b
  , fun b c => .cpxAbs (word16 c b)
  , fun b c => .sbcAbs (word16 c b)
  , fun b c => .incAbs (word16 c b)
  , fun b c => .iscAbs (word16 c b) ]

/-- What opcodes $F0–$FF make of their two following bytes (R175, R141). -/
def buildersF : List (Byte → Byte → Instr) :=
  [ fun b _ => .beq b
  , fun b _ => .sbcIndY b
  , fun _ _ => .jamF2
  , fun b _ => .iscIndY b
  , fun b _ => .nopZpXF4 b
  , fun b _ => .sbcZpX b
  , fun b _ => .incZpX b
  , fun b _ => .iscZpX b
  , fun _ _ => .sed
  , fun b c => .sbcAbsY (word16 c b)
  , fun _ _ => .nopFA
  , fun b c => .iscAbsY (word16 c b)
  , fun b c => .nopAbsXFC (word16 c b)
  , fun b c => .sbcAbsX (word16 c b)
  , fun b c => .incAbsX (word16 c b)
  , fun b c => .iscAbsX (word16 c b) ]

def builders : List (Byte → Byte → Instr) :=
  builders0 ++ builders1 ++ builders2 ++ builders3 ++ builders4 ++ builders5 ++ builders6 ++ builders7 ++
  builders8 ++ builders9 ++ buildersA ++ buildersB ++ buildersC ++ buildersD ++ buildersE ++ buildersF

/-- The instruction of opcode `op` with the operand bytes `b`, `c` (those its mode does not consume are ignored). The
default is never taken: there are 256 builders. -/
def build (op b c : Byte) : Instr := (builders.getD op.toNat fun _ _ => .brk) b c

/-- Why bytes are not an instruction. No opcode byte is refused (R151, R182): only bytes that end too early are. -/
inductive DecodeError where
  /-- There is no opcode byte. -/
  | noOpcode
  /-- Fewer operand bytes follow than the opcode's mode consumes. -/
  | missingOperand
  deriving DecidableEq, Repr

/-- The decoder: the instruction at the head of the bytes, and the bytes after it (R140–R142, R175). -/
def decode : List Byte → Except DecodeError (Instr × List Byte)
  | [] => .error .noOpcode
  | op :: rest =>
    match (opRow op).mode.operandBytes, rest with
    | 0, rest => .ok (build op 0 0, rest)
    | 1, b :: rest => .ok (build op b 0, rest)
    | 2, b :: c :: rest => .ok (build op b c, rest)
    | _, _ => .error .missingOperand

/-- The opcode byte of an instruction (R175). -/
def Instr.opcode : Instr → Byte
  | .brk => 0x00
  | .oraIndX _ => 0x01
  | .jam02 => 0x02
  | .sloIndX _ => 0x03
  | .nopZp04 _ => 0x04
  | .oraZp _ => 0x05
  | .aslZp _ => 0x06
  | .sloZp _ => 0x07
  | .php => 0x08
  | .oraImm _ => 0x09
  | .aslAcc => 0x0A
  | .ancImm0B _ => 0x0B
  | .nopAbs _ => 0x0C
  | .oraAbs _ => 0x0D
  | .aslAbs _ => 0x0E
  | .sloAbs _ => 0x0F
  | .bpl _ => 0x10
  | .oraIndY _ => 0x11
  | .jam12 => 0x12
  | .sloIndY _ => 0x13
  | .nopZpX14 _ => 0x14
  | .oraZpX _ => 0x15
  | .aslZpX _ => 0x16
  | .sloZpX _ => 0x17
  | .clc => 0x18
  | .oraAbsY _ => 0x19
  | .nop1A => 0x1A
  | .sloAbsY _ => 0x1B
  | .nopAbsX1C _ => 0x1C
  | .oraAbsX _ => 0x1D
  | .aslAbsX _ => 0x1E
  | .sloAbsX _ => 0x1F
  | .jsr _ => 0x20
  | .andIndX _ => 0x21
  | .jam22 => 0x22
  | .rlaIndX _ => 0x23
  | .bitZp _ => 0x24
  | .andZp _ => 0x25
  | .rolZp _ => 0x26
  | .rlaZp _ => 0x27
  | .plp => 0x28
  | .andImm _ => 0x29
  | .rolAcc => 0x2A
  | .ancImm2B _ => 0x2B
  | .bitAbs _ => 0x2C
  | .andAbs _ => 0x2D
  | .rolAbs _ => 0x2E
  | .rlaAbs _ => 0x2F
  | .bmi _ => 0x30
  | .andIndY _ => 0x31
  | .jam32 => 0x32
  | .rlaIndY _ => 0x33
  | .nopZpX34 _ => 0x34
  | .andZpX _ => 0x35
  | .rolZpX _ => 0x36
  | .rlaZpX _ => 0x37
  | .sec => 0x38
  | .andAbsY _ => 0x39
  | .nop3A => 0x3A
  | .rlaAbsY _ => 0x3B
  | .nopAbsX3C _ => 0x3C
  | .andAbsX _ => 0x3D
  | .rolAbsX _ => 0x3E
  | .rlaAbsX _ => 0x3F
  | .rti => 0x40
  | .eorIndX _ => 0x41
  | .jam42 => 0x42
  | .sreIndX _ => 0x43
  | .nopZp44 _ => 0x44
  | .eorZp _ => 0x45
  | .lsrZp _ => 0x46
  | .sreZp _ => 0x47
  | .pha => 0x48
  | .eorImm _ => 0x49
  | .lsrAcc => 0x4A
  | .alrImm _ => 0x4B
  | .jmpAbs _ => 0x4C
  | .eorAbs _ => 0x4D
  | .lsrAbs _ => 0x4E
  | .sreAbs _ => 0x4F
  | .bvc _ => 0x50
  | .eorIndY _ => 0x51
  | .jam52 => 0x52
  | .sreIndY _ => 0x53
  | .nopZpX54 _ => 0x54
  | .eorZpX _ => 0x55
  | .lsrZpX _ => 0x56
  | .sreZpX _ => 0x57
  | .cli => 0x58
  | .eorAbsY _ => 0x59
  | .nop5A => 0x5A
  | .sreAbsY _ => 0x5B
  | .nopAbsX5C _ => 0x5C
  | .eorAbsX _ => 0x5D
  | .lsrAbsX _ => 0x5E
  | .sreAbsX _ => 0x5F
  | .rts => 0x60
  | .adcIndX _ => 0x61
  | .jam62 => 0x62
  | .rraIndX _ => 0x63
  | .nopZp64 _ => 0x64
  | .adcZp _ => 0x65
  | .rorZp _ => 0x66
  | .rraZp _ => 0x67
  | .pla => 0x68
  | .adcImm _ => 0x69
  | .rorAcc => 0x6A
  | .arrImm _ => 0x6B
  | .jmpInd _ => 0x6C
  | .adcAbs _ => 0x6D
  | .rorAbs _ => 0x6E
  | .rraAbs _ => 0x6F
  | .bvs _ => 0x70
  | .adcIndY _ => 0x71
  | .jam72 => 0x72
  | .rraIndY _ => 0x73
  | .nopZpX74 _ => 0x74
  | .adcZpX _ => 0x75
  | .rorZpX _ => 0x76
  | .rraZpX _ => 0x77
  | .sei => 0x78
  | .adcAbsY _ => 0x79
  | .nop7A => 0x7A
  | .rraAbsY _ => 0x7B
  | .nopAbsX7C _ => 0x7C
  | .adcAbsX _ => 0x7D
  | .rorAbsX _ => 0x7E
  | .rraAbsX _ => 0x7F
  | .nopImm80 _ => 0x80
  | .staIndX _ => 0x81
  | .nopImm82 _ => 0x82
  | .saxIndX _ => 0x83
  | .styZp _ => 0x84
  | .staZp _ => 0x85
  | .stxZp _ => 0x86
  | .saxZp _ => 0x87
  | .dey => 0x88
  | .nopImm89 _ => 0x89
  | .txa => 0x8A
  | .aneImm _ => 0x8B
  | .styAbs _ => 0x8C
  | .staAbs _ => 0x8D
  | .stxAbs _ => 0x8E
  | .saxAbs _ => 0x8F
  | .bcc _ => 0x90
  | .staIndY _ => 0x91
  | .jam92 => 0x92
  | .shaIndY _ => 0x93
  | .styZpX _ => 0x94
  | .staZpX _ => 0x95
  | .stxZpY _ => 0x96
  | .saxZpY _ => 0x97
  | .tya => 0x98
  | .staAbsY _ => 0x99
  | .txs => 0x9A
  | .tasAbsY _ => 0x9B
  | .shyAbsX _ => 0x9C
  | .staAbsX _ => 0x9D
  | .shxAbsY _ => 0x9E
  | .shaAbsY _ => 0x9F
  | .ldyImm _ => 0xA0
  | .ldaIndX _ => 0xA1
  | .ldxImm _ => 0xA2
  | .laxIndX _ => 0xA3
  | .ldyZp _ => 0xA4
  | .ldaZp _ => 0xA5
  | .ldxZp _ => 0xA6
  | .laxZp _ => 0xA7
  | .tay => 0xA8
  | .ldaImm _ => 0xA9
  | .tax => 0xAA
  | .lxaImm _ => 0xAB
  | .ldyAbs _ => 0xAC
  | .ldaAbs _ => 0xAD
  | .ldxAbs _ => 0xAE
  | .laxAbs _ => 0xAF
  | .bcs _ => 0xB0
  | .ldaIndY _ => 0xB1
  | .jamB2 => 0xB2
  | .laxIndY _ => 0xB3
  | .ldyZpX _ => 0xB4
  | .ldaZpX _ => 0xB5
  | .ldxZpY _ => 0xB6
  | .laxZpY _ => 0xB7
  | .clv => 0xB8
  | .ldaAbsY _ => 0xB9
  | .tsx => 0xBA
  | .lasAbsY _ => 0xBB
  | .ldyAbsX _ => 0xBC
  | .ldaAbsX _ => 0xBD
  | .ldxAbsY _ => 0xBE
  | .laxAbsY _ => 0xBF
  | .cpyImm _ => 0xC0
  | .cmpIndX _ => 0xC1
  | .nopImmC2 _ => 0xC2
  | .dcpIndX _ => 0xC3
  | .cpyZp _ => 0xC4
  | .cmpZp _ => 0xC5
  | .decZp _ => 0xC6
  | .dcpZp _ => 0xC7
  | .iny => 0xC8
  | .cmpImm _ => 0xC9
  | .dex => 0xCA
  | .sbxImm _ => 0xCB
  | .cpyAbs _ => 0xCC
  | .cmpAbs _ => 0xCD
  | .decAbs _ => 0xCE
  | .dcpAbs _ => 0xCF
  | .bne _ => 0xD0
  | .cmpIndY _ => 0xD1
  | .jamD2 => 0xD2
  | .dcpIndY _ => 0xD3
  | .nopZpXD4 _ => 0xD4
  | .cmpZpX _ => 0xD5
  | .decZpX _ => 0xD6
  | .dcpZpX _ => 0xD7
  | .cld => 0xD8
  | .cmpAbsY _ => 0xD9
  | .nopDA => 0xDA
  | .dcpAbsY _ => 0xDB
  | .nopAbsXDC _ => 0xDC
  | .cmpAbsX _ => 0xDD
  | .decAbsX _ => 0xDE
  | .dcpAbsX _ => 0xDF
  | .cpxImm _ => 0xE0
  | .sbcIndX _ => 0xE1
  | .nopImmE2 _ => 0xE2
  | .iscIndX _ => 0xE3
  | .cpxZp _ => 0xE4
  | .sbcZp _ => 0xE5
  | .incZp _ => 0xE6
  | .iscZp _ => 0xE7
  | .inx => 0xE8
  | .sbcImm _ => 0xE9
  | .nop => 0xEA
  | .usbcImm _ => 0xEB
  | .cpxAbs _ => 0xEC
  | .sbcAbs _ => 0xED
  | .incAbs _ => 0xEE
  | .iscAbs _ => 0xEF
  | .beq _ => 0xF0
  | .sbcIndY _ => 0xF1
  | .jamF2 => 0xF2
  | .iscIndY _ => 0xF3
  | .nopZpXF4 _ => 0xF4
  | .sbcZpX _ => 0xF5
  | .incZpX _ => 0xF6
  | .iscZpX _ => 0xF7
  | .sed => 0xF8
  | .sbcAbsY _ => 0xF9
  | .nopFA => 0xFA
  | .iscAbsY _ => 0xFB
  | .nopAbsXFC _ => 0xFC
  | .sbcAbsX _ => 0xFD
  | .incAbsX _ => 0xFE
  | .iscAbsX _ => 0xFF

/-- The addressing mode and operand of an instruction (R175). -/
def Instr.operand : Instr → Operand
  | .brk => .implied
  | .oraIndX z => .indexedIndirect z
  | .jam02 => .implied
  | .sloIndX z => .indexedIndirect z
  | .nopZp04 z => .zeroPage z
  | .oraZp z => .zeroPage z
  | .aslZp z => .zeroPage z
  | .sloZp z => .zeroPage z
  | .php => .implied
  | .oraImm k => .immediate k
  | .aslAcc => .accumulator
  | .ancImm0B k => .immediate k
  | .nopAbs w => .absolute w
  | .oraAbs w => .absolute w
  | .aslAbs w => .absolute w
  | .sloAbs w => .absolute w
  | .bpl d => .relative d
  | .oraIndY z => .indirectIndexed z
  | .jam12 => .implied
  | .sloIndY z => .indirectIndexed z
  | .nopZpX14 z => .zeroPageX z
  | .oraZpX z => .zeroPageX z
  | .aslZpX z => .zeroPageX z
  | .sloZpX z => .zeroPageX z
  | .clc => .implied
  | .oraAbsY w => .absoluteY w
  | .nop1A => .implied
  | .sloAbsY w => .absoluteY w
  | .nopAbsX1C w => .absoluteX w
  | .oraAbsX w => .absoluteX w
  | .aslAbsX w => .absoluteX w
  | .sloAbsX w => .absoluteX w
  | .jsr w => .absolute w
  | .andIndX z => .indexedIndirect z
  | .jam22 => .implied
  | .rlaIndX z => .indexedIndirect z
  | .bitZp z => .zeroPage z
  | .andZp z => .zeroPage z
  | .rolZp z => .zeroPage z
  | .rlaZp z => .zeroPage z
  | .plp => .implied
  | .andImm k => .immediate k
  | .rolAcc => .accumulator
  | .ancImm2B k => .immediate k
  | .bitAbs w => .absolute w
  | .andAbs w => .absolute w
  | .rolAbs w => .absolute w
  | .rlaAbs w => .absolute w
  | .bmi d => .relative d
  | .andIndY z => .indirectIndexed z
  | .jam32 => .implied
  | .rlaIndY z => .indirectIndexed z
  | .nopZpX34 z => .zeroPageX z
  | .andZpX z => .zeroPageX z
  | .rolZpX z => .zeroPageX z
  | .rlaZpX z => .zeroPageX z
  | .sec => .implied
  | .andAbsY w => .absoluteY w
  | .nop3A => .implied
  | .rlaAbsY w => .absoluteY w
  | .nopAbsX3C w => .absoluteX w
  | .andAbsX w => .absoluteX w
  | .rolAbsX w => .absoluteX w
  | .rlaAbsX w => .absoluteX w
  | .rti => .implied
  | .eorIndX z => .indexedIndirect z
  | .jam42 => .implied
  | .sreIndX z => .indexedIndirect z
  | .nopZp44 z => .zeroPage z
  | .eorZp z => .zeroPage z
  | .lsrZp z => .zeroPage z
  | .sreZp z => .zeroPage z
  | .pha => .implied
  | .eorImm k => .immediate k
  | .lsrAcc => .accumulator
  | .alrImm k => .immediate k
  | .jmpAbs w => .absolute w
  | .eorAbs w => .absolute w
  | .lsrAbs w => .absolute w
  | .sreAbs w => .absolute w
  | .bvc d => .relative d
  | .eorIndY z => .indirectIndexed z
  | .jam52 => .implied
  | .sreIndY z => .indirectIndexed z
  | .nopZpX54 z => .zeroPageX z
  | .eorZpX z => .zeroPageX z
  | .lsrZpX z => .zeroPageX z
  | .sreZpX z => .zeroPageX z
  | .cli => .implied
  | .eorAbsY w => .absoluteY w
  | .nop5A => .implied
  | .sreAbsY w => .absoluteY w
  | .nopAbsX5C w => .absoluteX w
  | .eorAbsX w => .absoluteX w
  | .lsrAbsX w => .absoluteX w
  | .sreAbsX w => .absoluteX w
  | .rts => .implied
  | .adcIndX z => .indexedIndirect z
  | .jam62 => .implied
  | .rraIndX z => .indexedIndirect z
  | .nopZp64 z => .zeroPage z
  | .adcZp z => .zeroPage z
  | .rorZp z => .zeroPage z
  | .rraZp z => .zeroPage z
  | .pla => .implied
  | .adcImm k => .immediate k
  | .rorAcc => .accumulator
  | .arrImm k => .immediate k
  | .jmpInd w => .indirect w
  | .adcAbs w => .absolute w
  | .rorAbs w => .absolute w
  | .rraAbs w => .absolute w
  | .bvs d => .relative d
  | .adcIndY z => .indirectIndexed z
  | .jam72 => .implied
  | .rraIndY z => .indirectIndexed z
  | .nopZpX74 z => .zeroPageX z
  | .adcZpX z => .zeroPageX z
  | .rorZpX z => .zeroPageX z
  | .rraZpX z => .zeroPageX z
  | .sei => .implied
  | .adcAbsY w => .absoluteY w
  | .nop7A => .implied
  | .rraAbsY w => .absoluteY w
  | .nopAbsX7C w => .absoluteX w
  | .adcAbsX w => .absoluteX w
  | .rorAbsX w => .absoluteX w
  | .rraAbsX w => .absoluteX w
  | .nopImm80 k => .immediate k
  | .staIndX z => .indexedIndirect z
  | .nopImm82 k => .immediate k
  | .saxIndX z => .indexedIndirect z
  | .styZp z => .zeroPage z
  | .staZp z => .zeroPage z
  | .stxZp z => .zeroPage z
  | .saxZp z => .zeroPage z
  | .dey => .implied
  | .nopImm89 k => .immediate k
  | .txa => .implied
  | .aneImm k => .immediate k
  | .styAbs w => .absolute w
  | .staAbs w => .absolute w
  | .stxAbs w => .absolute w
  | .saxAbs w => .absolute w
  | .bcc d => .relative d
  | .staIndY z => .indirectIndexed z
  | .jam92 => .implied
  | .shaIndY z => .indirectIndexed z
  | .styZpX z => .zeroPageX z
  | .staZpX z => .zeroPageX z
  | .stxZpY z => .zeroPageY z
  | .saxZpY z => .zeroPageY z
  | .tya => .implied
  | .staAbsY w => .absoluteY w
  | .txs => .implied
  | .tasAbsY w => .absoluteY w
  | .shyAbsX w => .absoluteX w
  | .staAbsX w => .absoluteX w
  | .shxAbsY w => .absoluteY w
  | .shaAbsY w => .absoluteY w
  | .ldyImm k => .immediate k
  | .ldaIndX z => .indexedIndirect z
  | .ldxImm k => .immediate k
  | .laxIndX z => .indexedIndirect z
  | .ldyZp z => .zeroPage z
  | .ldaZp z => .zeroPage z
  | .ldxZp z => .zeroPage z
  | .laxZp z => .zeroPage z
  | .tay => .implied
  | .ldaImm k => .immediate k
  | .tax => .implied
  | .lxaImm k => .immediate k
  | .ldyAbs w => .absolute w
  | .ldaAbs w => .absolute w
  | .ldxAbs w => .absolute w
  | .laxAbs w => .absolute w
  | .bcs d => .relative d
  | .ldaIndY z => .indirectIndexed z
  | .jamB2 => .implied
  | .laxIndY z => .indirectIndexed z
  | .ldyZpX z => .zeroPageX z
  | .ldaZpX z => .zeroPageX z
  | .ldxZpY z => .zeroPageY z
  | .laxZpY z => .zeroPageY z
  | .clv => .implied
  | .ldaAbsY w => .absoluteY w
  | .tsx => .implied
  | .lasAbsY w => .absoluteY w
  | .ldyAbsX w => .absoluteX w
  | .ldaAbsX w => .absoluteX w
  | .ldxAbsY w => .absoluteY w
  | .laxAbsY w => .absoluteY w
  | .cpyImm k => .immediate k
  | .cmpIndX z => .indexedIndirect z
  | .nopImmC2 k => .immediate k
  | .dcpIndX z => .indexedIndirect z
  | .cpyZp z => .zeroPage z
  | .cmpZp z => .zeroPage z
  | .decZp z => .zeroPage z
  | .dcpZp z => .zeroPage z
  | .iny => .implied
  | .cmpImm k => .immediate k
  | .dex => .implied
  | .sbxImm k => .immediate k
  | .cpyAbs w => .absolute w
  | .cmpAbs w => .absolute w
  | .decAbs w => .absolute w
  | .dcpAbs w => .absolute w
  | .bne d => .relative d
  | .cmpIndY z => .indirectIndexed z
  | .jamD2 => .implied
  | .dcpIndY z => .indirectIndexed z
  | .nopZpXD4 z => .zeroPageX z
  | .cmpZpX z => .zeroPageX z
  | .decZpX z => .zeroPageX z
  | .dcpZpX z => .zeroPageX z
  | .cld => .implied
  | .cmpAbsY w => .absoluteY w
  | .nopDA => .implied
  | .dcpAbsY w => .absoluteY w
  | .nopAbsXDC w => .absoluteX w
  | .cmpAbsX w => .absoluteX w
  | .decAbsX w => .absoluteX w
  | .dcpAbsX w => .absoluteX w
  | .cpxImm k => .immediate k
  | .sbcIndX z => .indexedIndirect z
  | .nopImmE2 k => .immediate k
  | .iscIndX z => .indexedIndirect z
  | .cpxZp z => .zeroPage z
  | .sbcZp z => .zeroPage z
  | .incZp z => .zeroPage z
  | .iscZp z => .zeroPage z
  | .inx => .implied
  | .sbcImm k => .immediate k
  | .nop => .implied
  | .usbcImm k => .immediate k
  | .cpxAbs w => .absolute w
  | .sbcAbs w => .absolute w
  | .incAbs w => .absolute w
  | .iscAbs w => .absolute w
  | .beq d => .relative d
  | .sbcIndY z => .indirectIndexed z
  | .jamF2 => .implied
  | .iscIndY z => .indirectIndexed z
  | .nopZpXF4 z => .zeroPageX z
  | .sbcZpX z => .zeroPageX z
  | .incZpX z => .zeroPageX z
  | .iscZpX z => .zeroPageX z
  | .sed => .implied
  | .sbcAbsY w => .absoluteY w
  | .nopFA => .implied
  | .iscAbsY w => .absoluteY w
  | .nopAbsXFC w => .absoluteX w
  | .sbcAbsX w => .absoluteX w
  | .incAbsX w => .absoluteX w
  | .iscAbsX w => .absoluteX w

/-- The table row of an instruction. -/
def Instr.row (i : Instr) : OpRow := opRow i.opcode

/-- The encoder: the opcode byte, then the operand bytes (R140, R141). -/
def encode (i : Instr) : List Byte := i.opcode :: i.operand.bytes

/-- Byte n of the number w, byte 0 the least significant. -/
def byteOf (w n : Nat) : Byte := BitVec.ofNat 8 (w / 256 ^ n)

/-- The bytes of an instruction of the table whose bits are w: byte 0 is the opcode, and every bit above nbits is 0. -/
def tableBytes (nbits w : Nat) : List Byte :=
  [byteOf (w % 2 ^ nbits) 0, byteOf (w % 2 ^ nbits) 1, byteOf (w % 2 ^ nbits) 2]

/-- The instruction the decoder reads from an instruction whose bits are w, numbered as spec/opcode_table.json numbers
them. -/
def decodeTableWord (nbits w : Nat) : Option Instr :=
  match decode (tableBytes nbits w) with
  | .ok (i, _) => some i
  | .error _ => none

end Sys2Proof
end

