-- ==== Sys2Proof/Machine/Memory.lean ====
section
/-! DEFINITION. Byte memories in canonical form: reading, writing, and the check of the form. -/

namespace Sys2Proof.Machine

/-- What an address that no entry lists reads as (log 3). -/
def unlistedByte : Byte := 0

/-- The byte at address a. -/
def Mem.read : Mem → Nat → Byte
  | [], _ => unlistedByte
  | (k, b) :: m, a => if k = a then b else Mem.read m a

/-- m without its entry for a. -/
def Mem.erase (m : Mem) (a : Nat) : Mem := m.filter fun c => c.1 != a

/-- m with an entry for a at its place, where m lists none for a. -/
def Mem.insert : Mem → Nat → Byte → Mem
  | [], a, b => [(a, b)]
  | (k, c) :: m, a, b => if a < k then (a, b) :: (k, c) :: m else (k, c) :: Mem.insert m a b

/-- m with the byte b at address a: writing what an unlisted address reads as removes the entry. -/
def Mem.write (m : Mem) (a : Nat) (b : Byte) : Mem :=
  if b = unlistedByte then m.erase a else (m.erase a).insert a b

/-- "bulk write_block for DMA and ROM loading" (R82): the bytes, from address a upwards. -/
def Mem.writeBlock : Mem → Nat → List Byte → Mem
  | m, _, [] => m
  | m, a, b :: bs => Mem.writeBlock (m.write a b) (a + 1) bs

/-- Every address is at least `least`, the addresses strictly rise, and no entry is the unlisted byte. -/
def Mem.risesFrom : Nat → Mem → Bool
  | _, [] => true
  | least, (k, b) :: m => decide (least ≤ k) && b != unlistedByte && Mem.risesFrom (k + 1) m

/-- The canonical form of a memory of `size` bytes. -/
def Mem.wf (size : Nat) (m : Mem) : Bool :=
  Mem.risesFrom 0 m && m.all fun c => decide (c.1 < size)

end Sys2Proof.Machine
end

