-- ==== Sys2Proof/Machine/Ppu.lean ====
section
/-! DEFINITION. The PPU as a device on the CPU's bus and its timing automaton: PPU memory redirection (spec/20_memory.md
R120–R122), the register file (spec/60_exceptions.md R540–R552) and one dot (R561–R568). -/

namespace Sys2Proof.Machine

/-- The physical name table of logical table n = 0..3 (R120). -/
def physicalTable (m : Mirroring) (n : Addr) : Addr :=
  match m with
  | .vertical => n &&& 1#16
  | .horizontal => n >>> 1
  | .singleLower => 0#16
  | .singleUpper => 1#16

/-- The palette cell of an address: 32 cells, four of them aliases of the cell 16 below (R120). -/
def paletteCell (a : Addr) : Addr :=
  let p := a &&& 0x001F#16
  if p = 0x10#16 ∨ p = 0x14#16 ∨ p = 0x18#16 ∨ p = 0x1C#16 then p - 0x10#16 else p

/-- `ppuRedirect(a)`; the result is in $0000–$3FFF (R120). -/
def ppuRedirect (m : Mirroring) (addr : Addr) : Addr :=
  let a := addr &&& 0x3FFF#16
  if 0x3F00#16 ≤ a then 0x3F00#16 + paletteCell a
  else
    let a := if 0x3000#16 ≤ a then a - 0x1000#16 else a
    if 0x2000#16 ≤ a then
      let n := (a >>> 10) &&& 3#16
      let off := a &&& 0x03FF#16
      0x2000#16 + physicalTable m n * 0x0400#16 + off
    else a

/-- `PpuMemRead(a)` (R122). -/
def Ppu.memRead (u : Ppu) (a : Addr) : Byte := u.vram.read (ppuRedirect u.mirroring a).toNat

/-- `PpuMemWrite(a, v)` (R122). -/
def Ppu.memWrite (u : Ppu) (a : Addr) (v : Byte) : Ppu :=
  { u with vram := u.vram.write (ppuRedirect u.mirroring a).toNat v }

/-- The value of PPUSTATUS: {vblank, sprite0_hit, sprite_overflow, io_latch[4:0]} (R542). -/
def Ppu.status (u : Ppu) : Byte :=
  BitVec.ofBool u.vblank ++ BitVec.ofBool u.sprite0Hit ++ BitVec.ofBool u.spriteOverflow ++ u.ioLatch.extractLsb' 0 5

/-- "if background or sprite rendering is enabled": mask[3] = 1 or mask[4] = 1 (R541, R565). -/
def Ppu.renderingEnabled (u : Ppu) : Bool := u.mask.getLsbD 3 || u.mask.getLsbD 4

/-- `v_reg mod $4000`: the PPU address a data access uses (R550, R551). -/
def Ppu.dataAddr (u : Ppu) : Addr := u.v.setWidth 16 &&& 0x3FFF

/-- `Increment()`: v_reg by 1 or 32, mod $8000 (R552). -/
def Ppu.increment (u : Ppu) : Ppu := { u with v := u.v + if u.ctrl.getLsbD 2 then 32 else 1 }

/-- `DataRead()`, the $2007 read: buffered one access behind, except in the palette range (R550). -/
def Ppu.dataRead (u : Ppu) : Byte × Ppu :=
  if 0x3F00 ≤ u.dataAddr then
    (u.memRead u.dataAddr, { u with readBuffer := u.memRead (u.dataAddr - 0x1000) }.increment)
  else
    (u.readBuffer, { u with readBuffer := u.memRead u.dataAddr }.increment)

/-- `DataWrite(v)`, the $2007 write (R551). -/
def Ppu.dataWrite (u : Ppu) (v : Byte) : Ppu := (u.memWrite u.dataAddr v).increment

/-- `PpuRegRead(n)`: the byte read and the PPU after the read (R543). -/
def Ppu.regRead (u : Ppu) (n : BitVec 3) : Byte × Ppu :=
  if n = 2 then (u.status, { u with vblank := false, w := false })
  else if n = 4 then (u.oam.read u.oamAddr.toNat, u)
  else if n = 7 then u.dataRead
  else (u.ioLatch, u)

/-- t with its bits `start .. start + len - 1` replaced by the value f (R545–R547). -/
def setBits (t : BitVec 15) (start len : Nat) (f : BitVec 15) : BitVec 15 :=
  let mask := (BitVec.ofNat 15 (2 ^ len - 1)) <<< start
  (t &&& ~~~mask) ||| ((f <<< start) &&& mask)

/-- `CtrlWrite(v)`: ctrl <- v; t[11:10] <- v[1:0] (R545). -/
def Ppu.ctrlWrite (u : Ppu) (v : Byte) : Ppu := { u with ctrl := v, t := setBits u.t 10 2 (v.setWidth 15) }

/-- `ScrollWrite(v)`, the two-write scroll register (R546). -/
def Ppu.scrollWrite (u : Ppu) (v : Byte) : Ppu :=
  if u.w then
    { u with t := setBits (setBits u.t 12 3 (v.setWidth 15)) 5 5 ((v >>> 3).setWidth 15), w := false }
  else
    { u with t := setBits u.t 0 5 ((v >>> 3).setWidth 15), x := v.setWidth 3, w := true }

/-- `AddrWrite(v)`, the two-write address register (R547). -/
def Ppu.addrWrite (u : Ppu) (v : Byte) : Ppu :=
  if u.w then
    { u with t := setBits u.t 0 8 (v.setWidth 15), v := setBits u.t 0 8 (v.setWidth 15), w := false }
  else
    { u with t := setBits (setBits u.t 8 6 (v.setWidth 15)) 14 1 0, w := true }

/-- A write of OAMDATA: store at the pointer, then advance it mod 256 (R549). -/
def Ppu.oamWrite (u : Ppu) (v : Byte) : Ppu :=
  { u with oam := u.oam.write u.oamAddr.toNat v, oamAddr := u.oamAddr + 1 }

/-- The register's own effect of a write (R544). -/
def Ppu.regEffect (u : Ppu) (n : BitVec 3) (v : Byte) : Ppu :=
  if n = 0 then u.ctrlWrite v
  else if n = 1 then { u with mask := v }
  else if n = 2 then u
  else if n = 3 then { u with oamAddr := v }
  else if n = 4 then u.oamWrite v
  else if n = 5 then u.scrollWrite v
  else if n = 6 then u.addrWrite v
  else u.dataWrite v

/-- `PpuRegWrite(n, v)`: the latch first, then the register's own effect (R544). -/
def Ppu.regWrite (u : Ppu) (n : BitVec 3) (v : Byte) : Ppu := { u with ioLatch := v }.regEffect n v

/-- `AdvancePosition()` (R564, R566). -/
def Ppu.advancePosition (u : Ppu) : Ppu :=
  if u.scanline = 261 ∧ (u.dot = 340 ∨ (u.dot = 339 ∧ u.frame % 2 = 1)) then
    { u with dot := 0, scanline := 0, frame := u.frame + 1 }
  else if u.dot = 340 then { u with dot := 0, scanline := u.scanline + 1 }
  else { u with dot := u.dot + 1 }

/-- `SpriteOracle()`: the rendering collaborator may set either sprite flag at a dot (R567). -/
def Ppu.spriteOracle (u : Ppu) : Ppu :=
  { u with
    sprite0Hit := u.sprite0Hit || (Config.spriteFlags u.done).1
    spriteOverflow := u.spriteOverflow || (Config.spriteFlags u.done).2 }

def Ppu.atPosition (u : Ppu) (scanline dot : Nat) : Bool := u.scanline == scanline && u.dot == dot

/-- The position (scanline, dot) whose entry clears vblank early, for `VBLANK_CLEAR_OFFSET` = N (R562). -/
def vblankClearPoint (offset : Nat) : Nat × Nat := if offset = 0 then (261, 0) else (260, 341 - offset)

/-- R561: entering (241, 1) sets vblank. -/
def Ppu.vblankSet (u : Ppu) : Ppu := { u with vblank := u.atPosition 241 1 || u.vblank }

/-- R562: entering the clear point clears vblank. -/
def Ppu.vblankClear (u : Ppu) (offset : Nat) : Ppu :=
  { u with vblank := !u.atPosition (vblankClearPoint offset).1 (vblankClearPoint offset).2 && u.vblank }

/-- R563: entering (261, 1) clears both sprite flags. -/
def Ppu.spriteClear (u : Ppu) : Ppu :=
  { u with
    sprite0Hit := !u.atPosition 261 1 && u.sprite0Hit
    spriteOverflow := !u.atPosition 261 1 && u.spriteOverflow }

/-- R565: entering (261, 0) reloads v from t if rendering is enabled. -/
def Ppu.addressReload (u : Ppu) : Ppu :=
  { u with v := if u.atPosition 261 0 && u.renderingEnabled then u.t else u.v }

/-- `PpuTick()`'s effect on the PPU (R568). -/
def Ppu.tick (u : Ppu) (offset : Nat) : Ppu :=
  ((u.advancePosition.spriteOracle.vblankSet.vblankClear offset).spriteClear).addressReload

/-- R561: the dot raises NMI when it enters (241, 1) with ctrl[7] = 1. -/
def Ppu.raisesNmi (u : Ppu) : Bool := u.advancePosition.atPosition 241 1 && u.ctrl.getLsbD 7

end Sys2Proof.Machine
end

