-- ==== Sys2Proof/Machine/Ops.lean ====
section
/-! DEFINITION. The named operations every instruction is built from: the bus (spec/20_memory.md R90–R104), the register
writes, the stack (spec/10_state.md R40–R42), taking an interrupt and returning from one (spec/60_exceptions.md R500,
R503, R510; spec/42_control_flag.md R334, R350), the DMA transfer (R507), and fetching an instruction's bytes (R150). -/

namespace Sys2Proof.Machine

/-- Redirection: RAM is mirrored every $800 bytes below $2000, the PPU registers every 8 bytes below $4000 (R90). -/
def redirect (a : Addr) : Addr :=
  if a < 0x2000 then a &&& 0x07FF
  else if a < 0x4000 then 0x2000 ||| (a &&& 0x0007)
  else a

/-- The read classes of R91. -/
inductive ReadClass where
  | ram
  | flat
  | ppuRegister (n : BitVec 3)
  | controller (port : Fin 2)
  deriving DecidableEq, Repr

/-- The write classes of R91. -/
inductive WriteClass where
  | ram
  | flat
  | ppuRegister (n : BitVec 3)
  | dmaRegister
  | controllerStrobe
  | mapper
  deriving DecidableEq, Repr

def AddrRange.contains (g : AddrRange) (a : Addr) : Bool := decide (g.first ≤ a) && decide (a ≤ g.last)

/-- The read class of a redirected address: the first row of R91's table that matches. -/
def readClass (r : Addr) : ReadClass :=
  if r ≤ 0x07FF then .ram
  else if 0x2000 ≤ r ∧ r ≤ 0x2007 then .ppuRegister ((r - 0x2000).setWidth 3)
  else if r = 0x4016 then .controller 0
  else if r = 0x4017 then .controller 1
  else .flat

/-- The write class of a redirected address: the first row of R91's table that matches. -/
def writeClass (g : AddrRange) (r : Addr) : WriteClass :=
  if r ≤ 0x07FF then .ram
  else if 0x2000 ≤ r ∧ r ≤ 0x2007 then .ppuRegister ((r - 0x2000).setWidth 3)
  else if r = 0x4014 then .dmaRegister
  else if r = 0x4016 then .controllerStrobe
  else if r = 0x4017 then .flat
  else if AddrRange.contains g r then .mapper
  else .flat

/-- `MemRead(a, 1)`: the byte, and the state after the read's side effects (R95, R103). -/
def State.memRead (s : State) (a : Addr) : Byte × State :=
  match readClass (redirect a) with
  | .ram => (s.mem.read (redirect a).toNat, s)
  | .flat => (s.mem.read (redirect a).toNat, s)
  | .ppuRegister n => ((s.ppu.regRead n).1, { s with ppu := (s.ppu.regRead n).2 })
  | .controller port =>
    (Config.readController port s.controllerLog, { s with controllerLog := .read port :: s.controllerLog })

/-- `MemWrite(a, 1, v)` (R96, R93, R104). -/
def State.memWrite (s : State) (a : Addr) (v : Byte) : State :=
  match writeClass s.mapperRange (redirect a) with
  | .ram => { s with mem := s.mem.write (redirect a).toNat v }
  | .flat => { s with mem := s.mem.write (redirect a).toNat v }
  | .ppuRegister n => { s with ppu := s.ppu.regWrite n v }
  | .dmaRegister => { s with dmaSrc := word16 v 0, dmaPending := true }
  | .controllerStrobe => { s with controllerLog := .strobe v :: s.controllerLog }
  | .mapper => s

/-- `{MemRead(ahi, 1), MemRead(alo, 1)}`, the low byte read first (R16). -/
def State.readPair (s : State) (alo ahi : Addr) : Addr × State :=
  let l := s.memRead alo
  let h := l.2.memRead ahi
  (word16 h.1 l.1, h.2)

/-- `Read16(a)` (R16, R101). -/
def State.read16 (s : State) (a : Addr) : Addr × State := s.readPair a (a + 1)

/-- `A <- v` (R15). -/
def State.setA (s : State) (v : Byte) : State := { s with a := v }

/-- `X <- v` (R15). -/
def State.setX (s : State) (v : Byte) : State := { s with x := v }

/-- `Y <- v` (R15). -/
def State.setY (s : State) (v : Byte) : State := { s with y := v }

/-- `SP <- v` (R15). -/
def State.setSp (s : State) (v : Byte) : State := { s with sp := v }

/-- `PC <- target` (R15). -/
def State.setPc (s : State) (target : Addr) : State := { s with pc := target }

/-- The flags become p. -/
def State.setP (s : State) (p : Flags) : State := { s with p := p }

/-- `setNZ(v)` (R17). -/
def State.setNZ (s : State) (v : Byte) : State := { s with p := s.p.setNZ v }

/-- `cycles <- cycles + n` (R17, R43). -/
def State.addCycles (s : State) (n : Nat) : State := { s with cycles := s.cycles + n }

/-- The stack cell SP designates: {$01, SP} (R34). -/
def State.stackCell (s : State) : Addr := word16 1#8 s.sp

/-- `Push(v)`: write, then decrement SP mod 256 (R40). -/
def State.push (s : State) (v : Byte) : State :=
  let t := s.memWrite s.stackCell v
  { t with sp := t.sp - 1 }

/-- `Pull()`: increment SP mod 256, then read (R41). -/
def State.pull (s : State) : Byte × State :=
  let t := { s with sp := s.sp + 1 }
  t.memRead t.stackCell

/-- A 16-bit push: the high byte first (R42). -/
def State.push16 (s : State) (w : Addr) : State := (s.push (hi w)).push (lo w)

/-- A 16-bit pull: the low byte first (R42). -/
def State.pull16 (s : State) : Addr × State :=
  let l := s.pull
  let h := l.2.pull
  (word16 h.1 l.1, h.2)

/-- The NMI vector (R105, R503, D5). -/
def nmiVector : Addr := 0xFFFA

/-- The reset vector, the source of `ENTRY` (R105, R602, D3). -/
def resetVector : Addr := 0xFFFC

/-- The IRQ/BRK vector (R105, R350, R510, D5). -/
def irqVector : Addr := 0xFFFE

/-- Taking an interrupt (the table of R500): the return address and then the status byte with the given bit 4 are pushed,
P.I is set, and PC is loaded from the vector. -/
def State.enterInterrupt (s : State) (ret : Addr) (b4 : Bool) (vector : Addr) : State :=
  let t := (s.push16 ret).push (s.p.pushedByte b4)
  let v := (t.setP { t.p with i := true }).read16 vector
  v.2.setPc v.1

/-- Returning from an interrupt: the flags, then PC, from the stack (R334, R506). -/
def State.returnFromInterrupt (s : State) : State :=
  let b := s.pull
  let r := (b.2.setP (Flags.ofPulledByte b.1)).pull16
  r.2.setPc r.1

/-- `NmiEntry()` (R503, R505). -/
def State.nmiEntry (s : State) : State :=
  (({ s with nmiPending := false }).enterInterrupt s.pc false nmiVector).addCycles s.params.nmiCycles

/-- The IRQ entry sequence of R510; its cost is the model's own parameter (log 13). -/
def State.irqEntry (s : State) : State :=
  (s.enterInterrupt s.pc false irqVector).addCycles s.params.irqCycles

/-- Byte number i of the DMA copy: one bus read, stored in OAM from the OAM pointer on (R507). -/
def State.dmaByte (i : Nat) (s : State) : State :=
  let b := s.memRead (s.dmaSrc + BitVec.ofNat 16 i)
  { b.2 with ppu := { b.2.ppu with oam := b.2.ppu.oam.write (b.2.ppu.oamAddr + BitVec.ofNat 8 i).toNat b.1 } }

/-- The first n bytes of the DMA copy, in increasing i (R507). -/
def State.dmaCopy : Nat → State → State
  | 0, s => s
  | n + 1, s => (State.dmaCopy n s).dmaByte n

/-- `DmaTransfer()` (R507, R508). -/
def State.dmaTransfer (s : State) : State :=
  (State.dmaCopy 256 { s with dmaPending := false }).addCycles s.params.dmaCycles

/-- `Fetch8()`: the byte at PC by a bus read, and PC advanced (R150, R35). -/
def State.fetch8 (s : State) : Byte × State :=
  let b := s.memRead s.pc
  (b.1, b.2.setPc (s.pc + 1))

/-- The next n instruction-stream bytes, in order. -/
def State.fetchBytes : Nat → State → List Byte × State
  | 0, s => ([], s)
  | n + 1, s =>
    let b := s.fetch8
    let r := State.fetchBytes n b.2
    (b.1 :: r.1, r.2)

/-- The opcode byte at PC and the operand bytes its mode consumes; PC is then the address after the instruction (R150,
R142). -/
def State.fetchInstr (s : State) : List Byte × State :=
  let op := s.fetch8
  let r := State.fetchBytes (opRow op.1).mode.operandBytes op.2
  (op.1 :: r.1, r.2)

end Sys2Proof.Machine
end

