-- ==== Sys2Proof/Machine/Operands.lean ====
section
/-! DEFINITION. The address-mode resolver and the operand descriptor (spec/30_encoding.md R160–R174), reading and storing
through a descriptor (spec/00_scope.md R17), and the frame every instruction shares (R150, R152). The operand bytes were
fetched by `fetchInstr`; PC is the address after the instruction (log 14). -/

namespace Sys2Proof.Machine

/-- "tagged as one of {accumulator-reference, immediate value, address}" (R160). -/
inductive Descriptor where
  | acc
  | imm (k : Byte)
  | addr (a : Addr)
  deriving DecidableEq, Repr

/-- What the resolver gives a handler: the descriptor and `pc_cross` (R160). -/
structure Resolved where
  desc : Descriptor
  cross : Bool
  deriving DecidableEq, Repr

/-- An indexed address: base + zext_16(index), and whether its high byte differs from the base's (R168, R169, R172). -/
def indexed (base : Addr) (index : Byte) : Resolved :=
  let a := base + zext16 index
  ⟨.addr a, hi a != hi base⟩

/-- The pointer in page zero at z, its high byte at z + 1 mod $100 (R171, R172, D15). -/
def State.zeroPagePointer (s : State) (z : Byte) : Addr × State := s.readPair (zext16 z) (zext16 (z + 1))

/-- The pointer at p of JMP indirect: the high byte comes from the same page as the low byte (R170). -/
def State.jumpPointer (s : State) (p : Addr) : Addr × State := s.readPair p (word16 (hi p) (lo p + 1))

/-- `Resolve(mode)`: the descriptor, the page-cross flag and the state after the pointer reads (R160–R173). -/
def resolve (o : Operand) (s : State) : Resolved × State :=
  match o with
  | .implied => (⟨.imm 0, false⟩, s)
  | .accumulator => (⟨.acc, false⟩, s)
  | .immediate k => (⟨.imm k, false⟩, s)
  | .zeroPage z => (⟨.addr (zext16 z), false⟩, s)
  | .zeroPageX z => (⟨.addr (zext16 (z + s.x)), false⟩, s)
  | .zeroPageY z => (⟨.addr (zext16 (z + s.y)), false⟩, s)
  | .absolute w => (⟨.addr w, false⟩, s)
  | .absoluteX w => (indexed w s.x, s)
  | .absoluteY w => (indexed w s.y, s)
  | .indirect w => (⟨.addr (s.jumpPointer w).1, false⟩, (s.jumpPointer w).2)
  | .indexedIndirect z => (⟨.addr (s.zeroPagePointer (z + s.x)).1, false⟩, (s.zeroPagePointer (z + s.x)).2)
  | .indirectIndexed z => (indexed (s.zeroPagePointer z).1 s.y, (s.zeroPagePointer z).2)
  | .relative d => (⟨.imm d, false⟩, s)

/-- `operand`: k for Imm(k), A for Acc, and for Addr(a) the byte at a, read once (R17). -/
def State.operand (s : State) (d : Descriptor) : Byte × State :=
  match d with
  | .acc => (s.a, s)
  | .imm k => (k, s)
  | .addr a => s.memRead a

/-- `store(v)`: A <- v for Acc, MemWrite(a, 1, v) for Addr(a) (R17). No row of the table stores through Imm (log 15). -/
def State.store (s : State) (d : Descriptor) (v : Byte) : State :=
  match d with
  | .acc => s.setA v
  | .imm _ => s
  | .addr a => s.memWrite a v

/-- The 16-bit value a descriptor carries: a for Addr(a), k in the 16-bit field for Imm(k), 0 for Acc (R160). -/
def Descriptor.value : Descriptor → Addr
  | .acc => 0
  | .imm k => zext16 k
  | .addr a => a

/-- What a mnemonic does to the state, given its resolved operand. -/
abbrev Handler := Resolved → State → State

/-- One instruction after its bytes are fetched: resolve the operand, run the handler, then add the row's base count and,
where the row has `page_penalty`, 1 on a page crossing (R150, R152). -/
def runInstr (o : Operand) (base : Nat) (penalty : Bool) (h : Handler) (s : State) : Result :=
  let r := resolve o s
  .next ((h r.1 r.2).addCycles (base + if penalty && r.1.cross then 1 else 0))

end Sys2Proof.Machine
end

