-- ==== Sys2Proof/Machine/Control.lean ====
section
/-! DEFINITION. Control transfer, BRK, flag operations and NOP (spec/42_control_flag.md R330–R358): the handler of each
mnemonic, then the meaning of each row. -/

namespace Sys2Proof.Machine

/-- R330, R331: PC <- t. -/
def jmp : Handler := fun r s => s.setPc r.desc.value

/-- R332: push PC - 1, the address of the JSR's last byte; PC <- t. -/
def jsr : Handler := fun r s => (s.push16 (s.pc - 1)).setPc r.desc.value

/-- R333: PC <- the pulled word + 1. -/
def rts : Handler := fun _ s =>
  let w := s.pull16
  w.2.setPc (w.1 + 1)

/-- R334: the flags, then PC, are pulled. -/
def rti : Handler := fun _ s => s.returnFromInterrupt

/-- `branchExtra` of a taken branch from `after` to `target` (R344). -/
def branchExtra (policy : BranchPenalty) (after target : Addr) : Nat :=
  match policy with
  | .none => 0
  | .hardware => if hi target = hi after then 1 else 2

/-- `Branch(cond)`: PC <- PC + sext_8(d) if the condition holds, where PC is the address after the branch (R335); a taken
branch adds `branchExtra` (R344). -/
def branch (taken : Bool) : Handler := fun r s =>
  if taken then
    let target := s.pc + sext16 (lo r.desc.value)
    (s.setPc target).addCycles (branchExtra s.params.branchPenalty s.pc target)
  else s

/-- R336. -/
def bpl : Handler := fun r s => branch (!s.p.n) r s

/-- R337. -/
def bmi : Handler := fun r s => branch s.p.n r s

/-- R338. -/
def bvc : Handler := fun r s => branch (!s.p.v) r s

/-- R339. -/
def bvs : Handler := fun r s => branch s.p.v r s

/-- R340. -/
def bcc : Handler := fun r s => branch (!s.p.c) r s

/-- R341. -/
def bcs : Handler := fun r s => branch s.p.c r s

/-- R342. -/
def bne : Handler := fun r s => branch (!s.p.z) r s

/-- R343. -/
def beq : Handler := fun r s => branch s.p.z r s

/-- R350: the interrupt entry with return address PC + 1 and bit 4 of the status byte set, then stop <- 1. -/
def brk : Handler := fun _ s => { s.enterInterrupt (s.pc + 1) true irqVector with stop := true }

/-- R351. -/
def clc : Handler := fun _ s => s.setP { s.p with c := false }

/-- R352. -/
def sec : Handler := fun _ s => s.setP { s.p with c := true }

/-- R353. -/
def cli : Handler := fun _ s => s.setP { s.p with i := false }

/-- R354. -/
def sei : Handler := fun _ s => s.setP { s.p with i := true }

/-- R355. -/
def cld : Handler := fun _ s => s.setP { s.p with d := false }

/-- R356. -/
def sed : Handler := fun _ s => s.setP { s.p with d := true }

/-- R357. -/
def clv : Handler := fun _ s => s.setP { s.p with v := false }

/-- R358, and the illegal variants of R414–R416: no operand is read (D18). -/
def nop : Handler := fun _ s => s

/-- $4C (R330). -/
def execJmpAbs (w : Addr) (s : State) : Result := runInstr (.absolute w) 3 false jmp s

/-- $6C (R331). -/
def execJmpInd (w : Addr) (s : State) : Result := runInstr (.indirect w) 5 false jmp s

/-- $20 (R332). -/
def execJsr (w : Addr) (s : State) : Result := runInstr (.absolute w) 6 false jsr s

/-- $60 (R333). -/
def execRts (s : State) : Result := runInstr .implied 6 false rts s

/-- $40 (R334). -/
def execRti (s : State) : Result := runInstr .implied 6 false rti s

/-- $10 (R336). -/
def execBpl (d : Byte) (s : State) : Result := runInstr (.relative d) 2 false bpl s

/-- $30 (R337). -/
def execBmi (d : Byte) (s : State) : Result := runInstr (.relative d) 2 false bmi s

/-- $50 (R338). -/
def execBvc (d : Byte) (s : State) : Result := runInstr (.relative d) 2 false bvc s

/-- $70 (R339). -/
def execBvs (d : Byte) (s : State) : Result := runInstr (.relative d) 2 false bvs s

/-- $90 (R340). -/
def execBcc (d : Byte) (s : State) : Result := runInstr (.relative d) 2 false bcc s

/-- $B0 (R341). -/
def execBcs (d : Byte) (s : State) : Result := runInstr (.relative d) 2 false bcs s

/-- $D0 (R342). -/
def execBne (d : Byte) (s : State) : Result := runInstr (.relative d) 2 false bne s

/-- $F0 (R343). -/
def execBeq (d : Byte) (s : State) : Result := runInstr (.relative d) 2 false beq s

/-- $00 (R350). -/
def execBrk (s : State) : Result := runInstr .implied 7 false brk s

/-- $18 (R351). -/
def execClc (s : State) : Result := runInstr .implied 2 false clc s

/-- $38 (R352). -/
def execSec (s : State) : Result := runInstr .implied 2 false sec s

/-- $58 (R353). -/
def execCli (s : State) : Result := runInstr .implied 2 false cli s

/-- $78 (R354). -/
def execSei (s : State) : Result := runInstr .implied 2 false sei s

/-- $D8 (R355). -/
def execCld (s : State) : Result := runInstr .implied 2 false cld s

/-- $F8 (R356). -/
def execSed (s : State) : Result := runInstr .implied 2 false sed s

/-- $B8 (R357). -/
def execClv (s : State) : Result := runInstr .implied 2 false clv s

/-- $04 (R416). -/
def execNopZp04 (z : Byte) (s : State) : Result := runInstr (.zeroPage z) 3 false nop s

/-- $0C (R416). -/
def execNopAbs (w : Addr) (s : State) : Result := runInstr (.absolute w) 4 false nop s

/-- $14 (R416). -/
def execNopZpX14 (z : Byte) (s : State) : Result := runInstr (.zeroPageX z) 4 false nop s

/-- $1A (R414). -/
def execNop1A (s : State) : Result := runInstr .implied 2 false nop s

/-- $1C (R416). -/
def execNopAbsX1C (w : Addr) (s : State) : Result := runInstr (.absoluteX w) 4 true nop s

/-- $34 (R416). -/
def execNopZpX34 (z : Byte) (s : State) : Result := runInstr (.zeroPageX z) 4 false nop s

/-- $3A (R414). -/
def execNop3A (s : State) : Result := runInstr .implied 2 false nop s

/-- $3C (R416). -/
def execNopAbsX3C (w : Addr) (s : State) : Result := runInstr (.absoluteX w) 4 true nop s

/-- $44 (R416). -/
def execNopZp44 (z : Byte) (s : State) : Result := runInstr (.zeroPage z) 3 false nop s

/-- $54 (R416). -/
def execNopZpX54 (z : Byte) (s : State) : Result := runInstr (.zeroPageX z) 4 false nop s

/-- $5A (R414). -/
def execNop5A (s : State) : Result := runInstr .implied 2 false nop s

/-- $5C (R416). -/
def execNopAbsX5C (w : Addr) (s : State) : Result := runInstr (.absoluteX w) 4 true nop s

/-- $64 (R416). -/
def execNopZp64 (z : Byte) (s : State) : Result := runInstr (.zeroPage z) 3 false nop s

/-- $74 (R416). -/
def execNopZpX74 (z : Byte) (s : State) : Result := runInstr (.zeroPageX z) 4 false nop s

/-- $7A (R414). -/
def execNop7A (s : State) : Result := runInstr .implied 2 false nop s

/-- $7C (R416). -/
def execNopAbsX7C (w : Addr) (s : State) : Result := runInstr (.absoluteX w) 4 true nop s

/-- $80 (R415). -/
def execNopImm80 (k : Byte) (s : State) : Result := runInstr (.immediate k) 2 false nop s

/-- $82 (R415). -/
def execNopImm82 (k : Byte) (s : State) : Result := runInstr (.immediate k) 2 false nop s

/-- $89 (R415). -/
def execNopImm89 (k : Byte) (s : State) : Result := runInstr (.immediate k) 2 false nop s

/-- $C2 (R415). -/
def execNopImmC2 (k : Byte) (s : State) : Result := runInstr (.immediate k) 2 false nop s

/-- $D4 (R416). -/
def execNopZpXD4 (z : Byte) (s : State) : Result := runInstr (.zeroPageX z) 4 false nop s

/-- $DA (R414). -/
def execNopDA (s : State) : Result := runInstr .implied 2 false nop s

/-- $DC (R416). -/
def execNopAbsXDC (w : Addr) (s : State) : Result := runInstr (.absoluteX w) 4 true nop s

/-- $E2 (R415). -/
def execNopImmE2 (k : Byte) (s : State) : Result := runInstr (.immediate k) 2 false nop s

/-- $EA (R358). -/
def execNop (s : State) : Result := runInstr .implied 2 false nop s

/-- $F4 (R416). -/
def execNopZpXF4 (z : Byte) (s : State) : Result := runInstr (.zeroPageX z) 4 false nop s

/-- $FA (R414). -/
def execNopFA (s : State) : Result := runInstr .implied 2 false nop s

/-- $FC (R416). -/
def execNopAbsXFC (w : Addr) (s : State) : Result := runInstr (.absoluteX w) 4 true nop s

end Sys2Proof.Machine
end

