-- ==== Sys2Proof/Machine/Alu.lean ====
section
/-! DEFINITION. ALU instructions (spec/41_alu.md R260–R283): the handler of each mnemonic, then the meaning of each row.
P.D is read by none of them (R281). -/

namespace Sys2Proof.Machine

/-- `A <- AddCore(A, m, P.C)` (R260). -/
def State.addToA (s : State) (m : Byte) : State :=
  let r := addCore s.a m s.p.c s.p
  (s.setA r.1).setP r.2

/-- R262: A <- AddCore(A, operand, P.C). -/
def adc : Handler := fun r s =>
  let m := s.operand r.desc
  m.2.addToA m.1

/-- R263: A <- AddCore(A, ~operand, P.C). -/
def sbc : Handler := fun r s =>
  let m := s.operand r.desc
  m.2.addToA (~~~m.1)

/-- R264: A <- A & operand; setNZ(A). -/
def and : Handler := fun r s =>
  let m := s.operand r.desc
  (m.2.setA (m.2.a &&& m.1)).setNZ (m.2.a &&& m.1)

/-- R265: A <- A | operand; setNZ(A). -/
def ora : Handler := fun r s =>
  let m := s.operand r.desc
  (m.2.setA (m.2.a ||| m.1)).setNZ (m.2.a ||| m.1)

/-- R266: A <- A ^ operand; setNZ(A). -/
def eor : Handler := fun r s =>
  let m := s.operand r.desc
  (m.2.setA (m.2.a ^^^ m.1)).setNZ (m.2.a ^^^ m.1)

/-- R267: CompareCore(A, operand). -/
def cmp : Handler := fun r s =>
  let m := s.operand r.desc
  m.2.setP (compareCore m.2.a m.1 m.2.p)

/-- R268: CompareCore(X, operand). -/
def cpx : Handler := fun r s =>
  let m := s.operand r.desc
  m.2.setP (compareCore m.2.x m.1 m.2.p)

/-- R269: CompareCore(Y, operand). -/
def cpy : Handler := fun r s =>
  let m := s.operand r.desc
  m.2.setP (compareCore m.2.y m.1 m.2.p)

/-- R270: Z from A & m, N and V from bits 7 and 6 of m. -/
def bit : Handler := fun r s =>
  let m := s.operand r.desc
  m.2.setP (bitTest m.2.a m.1 m.2.p)

/-- R271: one read, one write of the value plus 1, setNZ of the result. -/
def inc : Handler := fun r s =>
  let m := s.operand r.desc
  (m.2.store r.desc (m.1 + 1)).setNZ (m.1 + 1)

/-- R272: one read, one write of the value minus 1, setNZ of the result. -/
def dec : Handler := fun r s =>
  let m := s.operand r.desc
  (m.2.store r.desc (m.1 - 1)).setNZ (m.1 - 1)

/-- R273: X <- X + 1; setNZ(X). -/
def inx : Handler := fun _ s => (s.setX (s.x + 1)).setNZ (s.x + 1)

/-- R274: Y <- Y + 1; setNZ(Y). -/
def iny : Handler := fun _ s => (s.setY (s.y + 1)).setNZ (s.y + 1)

/-- R275: X <- X - 1; setNZ(X). -/
def dex : Handler := fun _ s => (s.setX (s.x - 1)).setNZ (s.x - 1)

/-- R276: Y <- Y - 1; setNZ(Y). -/
def dey : Handler := fun _ s => (s.setY (s.y - 1)).setNZ (s.y - 1)

/-- The common shape of the shifts and rotates: read once, set C, store once, setNZ of the result (R277–R280). The illegal
read-modify-write shifts start the same way and leave N and Z to their second operation. -/
def State.shiftOperand (s : State) (d : Descriptor) (f : Byte → Flags → Byte × Flags) : Byte × State :=
  let m := s.operand d
  let q := f m.1 m.2.p
  (q.1, (m.2.setP q.2).store d q.1)

/-- R277. -/
def asl : Handler := fun r s =>
  let q := s.shiftOperand r.desc shiftLeft
  q.2.setNZ q.1

/-- R278. -/
def lsr : Handler := fun r s =>
  let q := s.shiftOperand r.desc shiftRight
  q.2.setNZ q.1

/-- R279. -/
def rol : Handler := fun r s =>
  let q := s.shiftOperand r.desc rotateLeft
  q.2.setNZ q.1

/-- R280. -/
def ror : Handler := fun r s =>
  let q := s.shiftOperand r.desc rotateRight
  q.2.setNZ q.1

/-- $61 (R262). -/
def execAdcIndX (z : Byte) (s : State) : Result := runInstr (.indexedIndirect z) 6 false adc s

/-- $65 (R262). -/
def execAdcZp (z : Byte) (s : State) : Result := runInstr (.zeroPage z) 3 false adc s

/-- $69 (R262). -/
def execAdcImm (k : Byte) (s : State) : Result := runInstr (.immediate k) 2 false adc s

/-- $6D (R262). -/
def execAdcAbs (w : Addr) (s : State) : Result := runInstr (.absolute w) 4 false adc s

/-- $71 (R262). -/
def execAdcIndY (z : Byte) (s : State) : Result := runInstr (.indirectIndexed z) 5 true adc s

/-- $75 (R262). -/
def execAdcZpX (z : Byte) (s : State) : Result := runInstr (.zeroPageX z) 4 false adc s

/-- $79 (R262). -/
def execAdcAbsY (w : Addr) (s : State) : Result := runInstr (.absoluteY w) 4 true adc s

/-- $7D (R262). -/
def execAdcAbsX (w : Addr) (s : State) : Result := runInstr (.absoluteX w) 4 true adc s

/-- $E1 (R263). -/
def execSbcIndX (z : Byte) (s : State) : Result := runInstr (.indexedIndirect z) 6 false sbc s

/-- $E5 (R263). -/
def execSbcZp (z : Byte) (s : State) : Result := runInstr (.zeroPage z) 3 false sbc s

/-- $E9 (R263). -/
def execSbcImm (k : Byte) (s : State) : Result := runInstr (.immediate k) 2 false sbc s

/-- $ED (R263). -/
def execSbcAbs (w : Addr) (s : State) : Result := runInstr (.absolute w) 4 false sbc s

/-- $F1 (R263). -/
def execSbcIndY (z : Byte) (s : State) : Result := runInstr (.indirectIndexed z) 5 true sbc s

/-- $F5 (R263). -/
def execSbcZpX (z : Byte) (s : State) : Result := runInstr (.zeroPageX z) 4 false sbc s

/-- $F9 (R263). -/
def execSbcAbsY (w : Addr) (s : State) : Result := runInstr (.absoluteY w) 4 true sbc s

/-- $FD (R263). -/
def execSbcAbsX (w : Addr) (s : State) : Result := runInstr (.absoluteX w) 4 true sbc s

/-- $21 (R264). -/
def execAndIndX (z : Byte) (s : State) : Result := runInstr (.indexedIndirect z) 6 false and s

/-- $25 (R264). -/
def execAndZp (z : Byte) (s : State) : Result := runInstr (.zeroPage z) 3 false and s

/-- $29 (R264). -/
def execAndImm (k : Byte) (s : State) : Result := runInstr (.immediate k) 2 false and s

/-- $2D (R264). -/
def execAndAbs (w : Addr) (s : State) : Result := runInstr (.absolute w) 4 false and s

/-- $31 (R264). -/
def execAndIndY (z : Byte) (s : State) : Result := runInstr (.indirectIndexed z) 5 true and s

/-- $35 (R264). -/
def execAndZpX (z : Byte) (s : State) : Result := runInstr (.zeroPageX z) 4 false and s

/-- $39 (R264). -/
def execAndAbsY (w : Addr) (s : State) : Result := runInstr (.absoluteY w) 4 true and s

/-- $3D (R264). -/
def execAndAbsX (w : Addr) (s : State) : Result := runInstr (.absoluteX w) 4 true and s

/-- $01 (R265). -/
def execOraIndX (z : Byte) (s : State) : Result := runInstr (.indexedIndirect z) 6 false ora s

/-- $05 (R265). -/
def execOraZp (z : Byte) (s : State) : Result := runInstr (.zeroPage z) 3 false ora s

/-- $09 (R265). -/
def execOraImm (k : Byte) (s : State) : Result := runInstr (.immediate k) 2 false ora s

/-- $0D (R265). -/
def execOraAbs (w : Addr) (s : State) : Result := runInstr (.absolute w) 4 false ora s

/-- $11 (R265). -/
def execOraIndY (z : Byte) (s : State) : Result := runInstr (.indirectIndexed z) 5 true ora s

/-- $15 (R265). -/
def execOraZpX (z : Byte) (s : State) : Result := runInstr (.zeroPageX z) 4 false ora s

/-- $19 (R265). -/
def execOraAbsY (w : Addr) (s : State) : Result := runInstr (.absoluteY w) 4 true ora s

/-- $1D (R265). -/
def execOraAbsX (w : Addr) (s : State) : Result := runInstr (.absoluteX w) 4 true ora s

/-- $41 (R266). -/
def execEorIndX (z : Byte) (s : State) : Result := runInstr (.indexedIndirect z) 6 false eor s

/-- $45 (R266). -/
def execEorZp (z : Byte) (s : State) : Result := runInstr (.zeroPage z) 3 false eor s

/-- $49 (R266). -/
def execEorImm (k : Byte) (s : State) : Result := runInstr (.immediate k) 2 false eor s

/-- $4D (R266). -/
def execEorAbs (w : Addr) (s : State) : Result := runInstr (.absolute w) 4 false eor s

/-- $51 (R266). -/
def execEorIndY (z : Byte) (s : State) : Result := runInstr (.indirectIndexed z) 5 true eor s

/-- $55 (R266). -/
def execEorZpX (z : Byte) (s : State) : Result := runInstr (.zeroPageX z) 4 false eor s

/-- $59 (R266). -/
def execEorAbsY (w : Addr) (s : State) : Result := runInstr (.absoluteY w) 4 true eor s

/-- $5D (R266). -/
def execEorAbsX (w : Addr) (s : State) : Result := runInstr (.absoluteX w) 4 true eor s

/-- $C1 (R267). -/
def execCmpIndX (z : Byte) (s : State) : Result := runInstr (.indexedIndirect z) 6 false cmp s

/-- $C5 (R267). -/
def execCmpZp (z : Byte) (s : State) : Result := runInstr (.zeroPage z) 3 false cmp s

/-- $C9 (R267). -/
def execCmpImm (k : Byte) (s : State) : Result := runInstr (.immediate k) 2 false cmp s

/-- $CD (R267). -/
def execCmpAbs (w : Addr) (s : State) : Result := runInstr (.absolute w) 4 false cmp s

/-- $D1 (R267). -/
def execCmpIndY (z : Byte) (s : State) : Result := runInstr (.indirectIndexed z) 5 true cmp s

/-- $D5 (R267). -/
def execCmpZpX (z : Byte) (s : State) : Result := runInstr (.zeroPageX z) 4 false cmp s

/-- $D9 (R267). -/
def execCmpAbsY (w : Addr) (s : State) : Result := runInstr (.absoluteY w) 4 true cmp s

/-- $DD (R267). -/
def execCmpAbsX (w : Addr) (s : State) : Result := runInstr (.absoluteX w) 4 true cmp s

/-- $E0 (R268). -/
def execCpxImm (k : Byte) (s : State) : Result := runInstr (.immediate k) 2 false cpx s

/-- $E4 (R268). -/
def execCpxZp (z : Byte) (s : State) : Result := runInstr (.zeroPage z) 3 false cpx s

/-- $EC (R268). -/
def execCpxAbs (w : Addr) (s : State) : Result := runInstr (.absolute w) 4 false cpx s

/-- $C0 (R269). -/
def execCpyImm (k : Byte) (s : State) : Result := runInstr (.immediate k) 2 false cpy s

/-- $C4 (R269). -/
def execCpyZp (z : Byte) (s : State) : Result := runInstr (.zeroPage z) 3 false cpy s

/-- $CC (R269). -/
def execCpyAbs (w : Addr) (s : State) : Result := runInstr (.absolute w) 4 false cpy s

/-- $24 (R270). -/
def execBitZp (z : Byte) (s : State) : Result := runInstr (.zeroPage z) 3 false bit s

/-- $2C (R270). -/
def execBitAbs (w : Addr) (s : State) : Result := runInstr (.absolute w) 4 false bit s

/-- $E6 (R271). -/
def execIncZp (z : Byte) (s : State) : Result := runInstr (.zeroPage z) 5 false inc s

/-- $EE (R271). -/
def execIncAbs (w : Addr) (s : State) : Result := runInstr (.absolute w) 6 false inc s

/-- $F6 (R271). -/
def execIncZpX (z : Byte) (s : State) : Result := runInstr (.zeroPageX z) 6 false inc s

/-- $FE (R271). -/
def execIncAbsX (w : Addr) (s : State) : Result := runInstr (.absoluteX w) 7 false inc s

/-- $C6 (R272). -/
def execDecZp (z : Byte) (s : State) : Result := runInstr (.zeroPage z) 5 false dec s

/-- $CE (R272). -/
def execDecAbs (w : Addr) (s : State) : Result := runInstr (.absolute w) 6 false dec s

/-- $D6 (R272). -/
def execDecZpX (z : Byte) (s : State) : Result := runInstr (.zeroPageX z) 6 false dec s

/-- $DE (R272). -/
def execDecAbsX (w : Addr) (s : State) : Result := runInstr (.absoluteX w) 7 false dec s

/-- $E8 (R273). -/
def execInx (s : State) : Result := runInstr .implied 2 false inx s

/-- $C8 (R274). -/
def execIny (s : State) : Result := runInstr .implied 2 false iny s

/-- $CA (R275). -/
def execDex (s : State) : Result := runInstr .implied 2 false dex s

/-- $88 (R276). -/
def execDey (s : State) : Result := runInstr .implied 2 false dey s

/-- $06 (R277). -/
def execAslZp (z : Byte) (s : State) : Result := runInstr (.zeroPage z) 5 false asl s

/-- $0A (R277). -/
def execAslAcc (s : State) : Result := runInstr .accumulator 2 false asl s

/-- $0E (R277). -/
def execAslAbs (w : Addr) (s : State) : Result := runInstr (.absolute w) 6 false asl s

/-- $16 (R277). -/
def execAslZpX (z : Byte) (s : State) : Result := runInstr (.zeroPageX z) 6 false asl s

/-- $1E (R277). -/
def execAslAbsX (w : Addr) (s : State) : Result := runInstr (.absoluteX w) 7 false asl s

/-- $46 (R278). -/
def execLsrZp (z : Byte) (s : State) : Result := runInstr (.zeroPage z) 5 false lsr s

/-- $4A (R278). -/
def execLsrAcc (s : State) : Result := runInstr .accumulator 2 false lsr s

/-- $4E (R278). -/
def execLsrAbs (w : Addr) (s : State) : Result := runInstr (.absolute w) 6 false lsr s

/-- $56 (R278). -/
def execLsrZpX (z : Byte) (s : State) : Result := runInstr (.zeroPageX z) 6 false lsr s

/-- $5E (R278). -/
def execLsrAbsX (w : Addr) (s : State) : Result := runInstr (.absoluteX w) 7 false lsr s

/-- $26 (R279). -/
def execRolZp (z : Byte) (s : State) : Result := runInstr (.zeroPage z) 5 false rol s

/-- $2A (R279). -/
def execRolAcc (s : State) : Result := runInstr .accumulator 2 false rol s

/-- $2E (R279). -/
def execRolAbs (w : Addr) (s : State) : Result := runInstr (.absolute w) 6 false rol s

/-- $36 (R279). -/
def execRolZpX (z : Byte) (s : State) : Result := runInstr (.zeroPageX z) 6 false rol s

/-- $3E (R279). -/
def execRolAbsX (w : Addr) (s : State) : Result := runInstr (.absoluteX w) 7 false rol s

/-- $66 (R280). -/
def execRorZp (z : Byte) (s : State) : Result := runInstr (.zeroPage z) 5 false ror s

/-- $6A (R280). -/
def execRorAcc (s : State) : Result := runInstr .accumulator 2 false ror s

/-- $6E (R280). -/
def execRorAbs (w : Addr) (s : State) : Result := runInstr (.absolute w) 6 false ror s

/-- $76 (R280). -/
def execRorZpX (z : Byte) (s : State) : Result := runInstr (.zeroPageX z) 6 false ror s

/-- $7E (R280). -/
def execRorAbsX (w : Addr) (s : State) : Result := runInstr (.absoluteX w) 7 false ror s

end Sys2Proof.Machine
end

