-- ==== Sys2Proof/Machine/Illegal.lean ====
section
/-! DEFINITION. Illegal opcodes (spec/43_illegal.md R400–R440): the handler of each mnemonic, then the meaning of each row.
The NOP variants of R414–R416 stand beside NOP in Control.lean. -/

namespace Sys2Proof.Machine

/-- R401: shift left in memory, then or into A. -/
def slo : Handler := fun r s =>
  let q := s.shiftOperand r.desc shiftLeft
  (q.2.setA (q.2.a ||| q.1)).setNZ (q.2.a ||| q.1)

/-- R402: rotate left in memory, then and into A. -/
def rla : Handler := fun r s =>
  let q := s.shiftOperand r.desc rotateLeft
  (q.2.setA (q.2.a &&& q.1)).setNZ (q.2.a &&& q.1)

/-- R403: shift right in memory, then exclusive-or into A. -/
def sre : Handler := fun r s =>
  let q := s.shiftOperand r.desc shiftRight
  (q.2.setA (q.2.a ^^^ q.1)).setNZ (q.2.a ^^^ q.1)

/-- R404: rotate right in memory, then add to A with the bit shifted out as carry-in. -/
def rra : Handler := fun r s =>
  let q := s.shiftOperand r.desc rotateRight
  q.2.addToA q.1

/-- R407: decrement in memory, then compare with A. -/
def dcp : Handler := fun r s =>
  let m := s.operand r.desc
  let t := m.2.store r.desc (m.1 - 1)
  t.setP (compareCore t.a (m.1 - 1) t.p)

/-- R408: increment in memory, then subtract from A with borrow. -/
def isc : Handler := fun r s =>
  let m := s.operand r.desc
  (m.2.store r.desc (m.1 + 1)).addToA (~~~(m.1 + 1))

/-- R405: MemWrite(a, 1, A & X). -/
def sax : Handler := fun r s => s.store r.desc (s.a &&& s.x)

/-- R406: v <- operand; A <- v; X <- v; setNZ(v). -/
def lax : Handler := fun r s =>
  let m := s.operand r.desc
  ((m.2.setA m.1).setX m.1).setNZ m.1

/-- R422: v <- operand & SP; A, X and SP become v; setNZ(v). -/
def las : Handler := fun r s =>
  let m := s.operand r.desc
  let v := m.1 &&& m.2.sp
  (((m.2.setA v).setX v).setSp v).setNZ v

/-- R409: A <- A & k; setNZ(A); P.C <- A[7]. -/
def anc : Handler := fun r s =>
  let m := s.operand r.desc
  let v := m.2.a &&& m.1
  let t := (m.2.setA v).setNZ v
  t.setP { t.p with c := v.getLsbD 7 }

/-- R410: t <- A & k; P.C <- t[0]; A <- t >> 1; setNZ(A). -/
def alr : Handler := fun r s =>
  let m := s.operand r.desc
  let q := shiftRight (m.2.a &&& m.1) m.2.p
  ((m.2.setP q.2).setA q.1).setNZ q.1

/-- R411: t <- A & k; A <- t rotated right through C; setNZ(A); P.C <- A[6]; P.V <- A[6] ^ A[5]. -/
def arr : Handler := fun r s =>
  let m := s.operand r.desc
  let v := (rotateRight (m.2.a &&& m.1) m.2.p).1
  let t := (m.2.setA v).setNZ v
  t.setP { t.p with c := v.getLsbD 6, v := v.getLsbD 6 ^^ v.getLsbD 5 }

/-- R412: t <- A & X; P.C <- (t >= k); X <- t - k; setNZ(X). -/
def sbx : Handler := fun r s =>
  let m := s.operand r.desc
  let t := m.2.a &&& m.2.x
  ((m.2.setP { m.2.p with c := decide (m.1 ≤ t) }).setX (t - m.1)).setNZ (t - m.1)

/-- R413: identical to SBC immediate. -/
def usbc : Handler := fun r s =>
  let m := s.operand r.desc
  m.2.addToA (~~~m.1)

/-- R420: A <- (A | ANE_MAGIC) & X & k; setNZ(A). -/
def ane : Handler := fun r s =>
  let m := s.operand r.desc
  let v := (m.2.a ||| m.2.params.aneMagic) &&& m.2.x &&& m.1
  (m.2.setA v).setNZ v

/-- R421: v <- (A | LXA_MAGIC) & k; A <- v; X <- v; setNZ(v). -/
def lxa : Handler := fun r s =>
  let m := s.operand r.desc
  let v := (m.2.a ||| m.2.params.lxaMagic) &&& m.1
  ((m.2.setA v).setX v).setNZ v

/-- R430: `H + 1 = hi(a) + 1 − pc_cross` (mod 256), where H is the high byte of the base address before indexing. -/
def Resolved.basePageNext (r : Resolved) : Byte := hi r.desc.value + 1 - if r.cross then 1 else 0

/-- R430: the written address is a, or {val, lo(a)} on a page crossing. -/
def Resolved.unstableAddr (r : Resolved) (val : Byte) : Addr :=
  if r.cross then word16 val (lo r.desc.value) else r.desc.value

/-- R430: under REFUSE the instruction sets `refused` and makes no bus access after the resolver's; under COMMON it runs
as its rule says. -/
def State.underUnstablePolicy (s : State) (common : State) : State :=
  match s.params.unstableStore with
  | .common => common
  | .refuse => { s with refused := true }

/-- R431: val <- A & X & (H + 1). -/
def sha : Handler := fun r s =>
  let val := s.a &&& s.x &&& r.basePageNext
  s.underUnstablePolicy (s.memWrite (r.unstableAddr val) val)

/-- R432: val <- X & (H + 1). -/
def shx : Handler := fun r s =>
  let val := s.x &&& r.basePageNext
  s.underUnstablePolicy (s.memWrite (r.unstableAddr val) val)

/-- R433: val <- Y & (H + 1). -/
def shy : Handler := fun r s =>
  let val := s.y &&& r.basePageNext
  s.underUnstablePolicy (s.memWrite (r.unstableAddr val) val)

/-- R434: SP <- A & X; val <- SP & (H + 1); under REFUSE SP is not written. -/
def tas : Handler := fun r s =>
  let val := s.a &&& s.x &&& r.basePageNext
  s.underUnstablePolicy ((s.setSp (s.a &&& s.x)).memWrite (r.unstableAddr val) val)

/-- R440: under HALT, jammed <- 1; under NOP, nothing, at 2 cycles. The table's cycle count applies under NOP only (R175),
so HALT adds none (log 11). -/
def State.jam (s : State) : State :=
  match s.params.jamPolicy with
  | .halt => { s with jammed := true }
  | .nop => s.addCycles 2

def jam : Handler := fun _ s => s.jam

/-- $03 (R401). -/
def execSloIndX (z : Byte) (s : State) : Result := runInstr (.indexedIndirect z) 8 false slo s

/-- $07 (R401). -/
def execSloZp (z : Byte) (s : State) : Result := runInstr (.zeroPage z) 5 false slo s

/-- $0F (R401). -/
def execSloAbs (w : Addr) (s : State) : Result := runInstr (.absolute w) 6 false slo s

/-- $13 (R401). -/
def execSloIndY (z : Byte) (s : State) : Result := runInstr (.indirectIndexed z) 8 false slo s

/-- $17 (R401). -/
def execSloZpX (z : Byte) (s : State) : Result := runInstr (.zeroPageX z) 6 false slo s

/-- $1B (R401). -/
def execSloAbsY (w : Addr) (s : State) : Result := runInstr (.absoluteY w) 7 false slo s

/-- $1F (R401). -/
def execSloAbsX (w : Addr) (s : State) : Result := runInstr (.absoluteX w) 7 false slo s

/-- $23 (R402). -/
def execRlaIndX (z : Byte) (s : State) : Result := runInstr (.indexedIndirect z) 8 false rla s

/-- $27 (R402). -/
def execRlaZp (z : Byte) (s : State) : Result := runInstr (.zeroPage z) 5 false rla s

/-- $2F (R402). -/
def execRlaAbs (w : Addr) (s : State) : Result := runInstr (.absolute w) 6 false rla s

/-- $33 (R402). -/
def execRlaIndY (z : Byte) (s : State) : Result := runInstr (.indirectIndexed z) 8 false rla s

/-- $37 (R402). -/
def execRlaZpX (z : Byte) (s : State) : Result := runInstr (.zeroPageX z) 6 false rla s

/-- $3B (R402). -/
def execRlaAbsY (w : Addr) (s : State) : Result := runInstr (.absoluteY w) 7 false rla s

/-- $3F (R402). -/
def execRlaAbsX (w : Addr) (s : State) : Result := runInstr (.absoluteX w) 7 false rla s

/-- $43 (R403). -/
def execSreIndX (z : Byte) (s : State) : Result := runInstr (.indexedIndirect z) 8 false sre s

/-- $47 (R403). -/
def execSreZp (z : Byte) (s : State) : Result := runInstr (.zeroPage z) 5 false sre s

/-- $4F (R403). -/
def execSreAbs (w : Addr) (s : State) : Result := runInstr (.absolute w) 6 false sre s

/-- $53 (R403). -/
def execSreIndY (z : Byte) (s : State) : Result := runInstr (.indirectIndexed z) 8 false sre s

/-- $57 (R403). -/
def execSreZpX (z : Byte) (s : State) : Result := runInstr (.zeroPageX z) 6 false sre s

/-- $5B (R403). -/
def execSreAbsY (w : Addr) (s : State) : Result := runInstr (.absoluteY w) 7 false sre s

/-- $5F (R403). -/
def execSreAbsX (w : Addr) (s : State) : Result := runInstr (.absoluteX w) 7 false sre s

/-- $63 (R404). -/
def execRraIndX (z : Byte) (s : State) : Result := runInstr (.indexedIndirect z) 8 false rra s

/-- $67 (R404). -/
def execRraZp (z : Byte) (s : State) : Result := runInstr (.zeroPage z) 5 false rra s

/-- $6F (R404). -/
def execRraAbs (w : Addr) (s : State) : Result := runInstr (.absolute w) 6 false rra s

/-- $73 (R404). -/
def execRraIndY (z : Byte) (s : State) : Result := runInstr (.indirectIndexed z) 8 false rra s

/-- $77 (R404). -/
def execRraZpX (z : Byte) (s : State) : Result := runInstr (.zeroPageX z) 6 false rra s

/-- $7B (R404). -/
def execRraAbsY (w : Addr) (s : State) : Result := runInstr (.absoluteY w) 7 false rra s

/-- $7F (R404). -/
def execRraAbsX (w : Addr) (s : State) : Result := runInstr (.absoluteX w) 7 false rra s

/-- $C3 (R407). -/
def execDcpIndX (z : Byte) (s : State) : Result := runInstr (.indexedIndirect z) 8 false dcp s

/-- $C7 (R407). -/
def execDcpZp (z : Byte) (s : State) : Result := runInstr (.zeroPage z) 5 false dcp s

/-- $CF (R407). -/
def execDcpAbs (w : Addr) (s : State) : Result := runInstr (.absolute w) 6 false dcp s

/-- $D3 (R407). -/
def execDcpIndY (z : Byte) (s : State) : Result := runInstr (.indirectIndexed z) 8 false dcp s

/-- $D7 (R407). -/
def execDcpZpX (z : Byte) (s : State) : Result := runInstr (.zeroPageX z) 6 false dcp s

/-- $DB (R407). -/
def execDcpAbsY (w : Addr) (s : State) : Result := runInstr (.absoluteY w) 7 false dcp s

/-- $DF (R407). -/
def execDcpAbsX (w : Addr) (s : State) : Result := runInstr (.absoluteX w) 7 false dcp s

/-- $E3 (R408). -/
def execIscIndX (z : Byte) (s : State) : Result := runInstr (.indexedIndirect z) 8 false isc s

/-- $E7 (R408). -/
def execIscZp (z : Byte) (s : State) : Result := runInstr (.zeroPage z) 5 false isc s

/-- $EF (R408). -/
def execIscAbs (w : Addr) (s : State) : Result := runInstr (.absolute w) 6 false isc s

/-- $F3 (R408). -/
def execIscIndY (z : Byte) (s : State) : Result := runInstr (.indirectIndexed z) 8 false isc s

/-- $F7 (R408). -/
def execIscZpX (z : Byte) (s : State) : Result := runInstr (.zeroPageX z) 6 false isc s

/-- $FB (R408). -/
def execIscAbsY (w : Addr) (s : State) : Result := runInstr (.absoluteY w) 7 false isc s

/-- $FF (R408). -/
def execIscAbsX (w : Addr) (s : State) : Result := runInstr (.absoluteX w) 7 false isc s

/-- $83 (R405). -/
def execSaxIndX (z : Byte) (s : State) : Result := runInstr (.indexedIndirect z) 6 false sax s

/-- $87 (R405). -/
def execSaxZp (z : Byte) (s : State) : Result := runInstr (.zeroPage z) 3 false sax s

/-- $8F (R405). -/
def execSaxAbs (w : Addr) (s : State) : Result := runInstr (.absolute w) 4 false sax s

/-- $97 (R405). -/
def execSaxZpY (z : Byte) (s : State) : Result := runInstr (.zeroPageY z) 4 false sax s

/-- $A3 (R406). -/
def execLaxIndX (z : Byte) (s : State) : Result := runInstr (.indexedIndirect z) 6 false lax s

/-- $A7 (R406). -/
def execLaxZp (z : Byte) (s : State) : Result := runInstr (.zeroPage z) 3 false lax s

/-- $AF (R406). -/
def execLaxAbs (w : Addr) (s : State) : Result := runInstr (.absolute w) 4 false lax s

/-- $B3 (R406). -/
def execLaxIndY (z : Byte) (s : State) : Result := runInstr (.indirectIndexed z) 5 true lax s

/-- $B7 (R406). -/
def execLaxZpY (z : Byte) (s : State) : Result := runInstr (.zeroPageY z) 4 false lax s

/-- $BF (R406). -/
def execLaxAbsY (w : Addr) (s : State) : Result := runInstr (.absoluteY w) 4 true lax s

/-- $BB (R422). -/
def execLasAbsY (w : Addr) (s : State) : Result := runInstr (.absoluteY w) 4 true las s

/-- $0B (R409). -/
def execAncImm0B (k : Byte) (s : State) : Result := runInstr (.immediate k) 2 false anc s

/-- $2B (R409). -/
def execAncImm2B (k : Byte) (s : State) : Result := runInstr (.immediate k) 2 false anc s

/-- $4B (R410). -/
def execAlrImm (k : Byte) (s : State) : Result := runInstr (.immediate k) 2 false alr s

/-- $6B (R411). -/
def execArrImm (k : Byte) (s : State) : Result := runInstr (.immediate k) 2 false arr s

/-- $CB (R412). -/
def execSbxImm (k : Byte) (s : State) : Result := runInstr (.immediate k) 2 false sbx s

/-- $EB (R413). -/
def execUsbcImm (k : Byte) (s : State) : Result := runInstr (.immediate k) 2 false usbc s

/-- $8B (R420). -/
def execAneImm (k : Byte) (s : State) : Result := runInstr (.immediate k) 2 false ane s

/-- $AB (R421). -/
def execLxaImm (k : Byte) (s : State) : Result := runInstr (.immediate k) 2 false lxa s

/-- $93 (R431). -/
def execShaIndY (z : Byte) (s : State) : Result := runInstr (.indirectIndexed z) 6 false sha s

/-- $9F (R431). -/
def execShaAbsY (w : Addr) (s : State) : Result := runInstr (.absoluteY w) 5 false sha s

/-- $9E (R432). -/
def execShxAbsY (w : Addr) (s : State) : Result := runInstr (.absoluteY w) 5 false shx s

/-- $9C (R433). -/
def execShyAbsX (w : Addr) (s : State) : Result := runInstr (.absoluteX w) 5 false shy s

/-- $9B (R434). -/
def execTasAbsY (w : Addr) (s : State) : Result := runInstr (.absoluteY w) 5 false tas s

/-- $02 (R440). -/
def execJam02 (s : State) : Result := runInstr .implied 0 false jam s

/-- $12 (R440). -/
def execJam12 (s : State) : Result := runInstr .implied 0 false jam s

/-- $22 (R440). -/
def execJam22 (s : State) : Result := runInstr .implied 0 false jam s

/-- $32 (R440). -/
def execJam32 (s : State) : Result := runInstr .implied 0 false jam s

/-- $42 (R440). -/
def execJam42 (s : State) : Result := runInstr .implied 0 false jam s

/-- $52 (R440). -/
def execJam52 (s : State) : Result := runInstr .implied 0 false jam s

/-- $62 (R440). -/
def execJam62 (s : State) : Result := runInstr .implied 0 false jam s

/-- $72 (R440). -/
def execJam72 (s : State) : Result := runInstr .implied 0 false jam s

/-- $92 (R440). -/
def execJam92 (s : State) : Result := runInstr .implied 0 false jam s

/-- $B2 (R440). -/
def execJamB2 (s : State) : Result := runInstr .implied 0 false jam s

/-- $D2 (R440). -/
def execJamD2 (s : State) : Result := runInstr .implied 0 false jam s

/-- $F2 (R440). -/
def execJamF2 (s : State) : Result := runInstr .implied 0 false jam s

end Sys2Proof.Machine
end

