-- ==== Sys2Proof/Machine/LoadStore.lean ====
section
/-! DEFINITION. Loads, stores, register transfers and stack operations (spec/40_load_store_transfer.md R200–R216): the
handler of each mnemonic, then the meaning of each row. -/

namespace Sys2Proof.Machine

/-- R201: v <- operand; A <- v; setNZ(v). -/
def lda : Handler := fun r s =>
  let m := s.operand r.desc
  (m.2.setA m.1).setNZ m.1

/-- R202: v <- operand; X <- v; setNZ(v). -/
def ldx : Handler := fun r s =>
  let m := s.operand r.desc
  (m.2.setX m.1).setNZ m.1

/-- R203: v <- operand; Y <- v; setNZ(v). -/
def ldy : Handler := fun r s =>
  let m := s.operand r.desc
  (m.2.setY m.1).setNZ m.1

/-- R204: MemWrite(a, 1, A). -/
def sta : Handler := fun r s => s.store r.desc s.a

/-- R205: MemWrite(a, 1, X). -/
def stx : Handler := fun r s => s.store r.desc s.x

/-- R206: MemWrite(a, 1, Y). -/
def sty : Handler := fun r s => s.store r.desc s.y

/-- R207: X <- A; setNZ(X). -/
def tax : Handler := fun _ s => (s.setX s.a).setNZ s.a

/-- R208: Y <- A; setNZ(Y). -/
def tay : Handler := fun _ s => (s.setY s.a).setNZ s.a

/-- R209: A <- X; setNZ(A). -/
def txa : Handler := fun _ s => (s.setA s.x).setNZ s.x

/-- R210: A <- Y; setNZ(A). -/
def tya : Handler := fun _ s => (s.setA s.y).setNZ s.y

/-- R211: X <- SP; setNZ(X). -/
def tsx : Handler := fun _ s => (s.setX s.sp).setNZ s.sp

/-- R212: SP <- X; no flag is written. -/
def txs : Handler := fun _ s => s.setSp s.x

/-- R213: Push(A). -/
def pha : Handler := fun _ s => s.push s.a

/-- R214: Push(PByte(1)). -/
def php : Handler := fun _ s => s.push (s.p.pushedByte true)

/-- R215: v <- Pull(); A <- v; setNZ(v). -/
def pla : Handler := fun _ s =>
  let m := s.pull
  (m.2.setA m.1).setNZ m.1

/-- R216: b <- Pull(); SetP(b). -/
def plp : Handler := fun _ s =>
  let m := s.pull
  m.2.setP (Flags.ofPulledByte m.1)

/-- $A1 (R201). -/
def execLdaIndX (z : Byte) (s : State) : Result := runInstr (.indexedIndirect z) 6 false lda s

/-- $A5 (R201). -/
def execLdaZp (z : Byte) (s : State) : Result := runInstr (.zeroPage z) 3 false lda s

/-- $A9 (R201). -/
def execLdaImm (k : Byte) (s : State) : Result := runInstr (.immediate k) 2 false lda s

/-- $AD (R201). -/
def execLdaAbs (w : Addr) (s : State) : Result := runInstr (.absolute w) 4 false lda s

/-- $B1 (R201). -/
def execLdaIndY (z : Byte) (s : State) : Result := runInstr (.indirectIndexed z) 5 true lda s

/-- $B5 (R201). -/
def execLdaZpX (z : Byte) (s : State) : Result := runInstr (.zeroPageX z) 4 false lda s

/-- $B9 (R201). -/
def execLdaAbsY (w : Addr) (s : State) : Result := runInstr (.absoluteY w) 4 true lda s

/-- $BD (R201). -/
def execLdaAbsX (w : Addr) (s : State) : Result := runInstr (.absoluteX w) 4 true lda s

/-- $A2 (R202). -/
def execLdxImm (k : Byte) (s : State) : Result := runInstr (.immediate k) 2 false ldx s

/-- $A6 (R202). -/
def execLdxZp (z : Byte) (s : State) : Result := runInstr (.zeroPage z) 3 false ldx s

/-- $AE (R202). -/
def execLdxAbs (w : Addr) (s : State) : Result := runInstr (.absolute w) 4 false ldx s

/-- $B6 (R202). -/
def execLdxZpY (z : Byte) (s : State) : Result := runInstr (.zeroPageY z) 4 false ldx s

/-- $BE (R202). -/
def execLdxAbsY (w : Addr) (s : State) : Result := runInstr (.absoluteY w) 4 true ldx s

/-- $A0 (R203). -/
def execLdyImm (k : Byte) (s : State) : Result := runInstr (.immediate k) 2 false ldy s

/-- $A4 (R203). -/
def execLdyZp (z : Byte) (s : State) : Result := runInstr (.zeroPage z) 3 false ldy s

/-- $AC (R203). -/
def execLdyAbs (w : Addr) (s : State) : Result := runInstr (.absolute w) 4 false ldy s

/-- $B4 (R203). -/
def execLdyZpX (z : Byte) (s : State) : Result := runInstr (.zeroPageX z) 4 false ldy s

/-- $BC (R203). -/
def execLdyAbsX (w : Addr) (s : State) : Result := runInstr (.absoluteX w) 4 true ldy s

/-- $81 (R204). -/
def execStaIndX (z : Byte) (s : State) : Result := runInstr (.indexedIndirect z) 6 false sta s

/-- $85 (R204). -/
def execStaZp (z : Byte) (s : State) : Result := runInstr (.zeroPage z) 3 false sta s

/-- $8D (R204). -/
def execStaAbs (w : Addr) (s : State) : Result := runInstr (.absolute w) 4 false sta s

/-- $91 (R204). -/
def execStaIndY (z : Byte) (s : State) : Result := runInstr (.indirectIndexed z) 6 false sta s

/-- $95 (R204). -/
def execStaZpX (z : Byte) (s : State) : Result := runInstr (.zeroPageX z) 4 false sta s

/-- $99 (R204). -/
def execStaAbsY (w : Addr) (s : State) : Result := runInstr (.absoluteY w) 5 false sta s

/-- $9D (R204). -/
def execStaAbsX (w : Addr) (s : State) : Result := runInstr (.absoluteX w) 5 false sta s

/-- $86 (R205). -/
def execStxZp (z : Byte) (s : State) : Result := runInstr (.zeroPage z) 3 false stx s

/-- $8E (R205). -/
def execStxAbs (w : Addr) (s : State) : Result := runInstr (.absolute w) 4 false stx s

/-- $96 (R205). -/
def execStxZpY (z : Byte) (s : State) : Result := runInstr (.zeroPageY z) 4 false stx s

/-- $84 (R206). -/
def execStyZp (z : Byte) (s : State) : Result := runInstr (.zeroPage z) 3 false sty s

/-- $8C (R206). -/
def execStyAbs (w : Addr) (s : State) : Result := runInstr (.absolute w) 4 false sty s

/-- $94 (R206). -/
def execStyZpX (z : Byte) (s : State) : Result := runInstr (.zeroPageX z) 4 false sty s

/-- $AA (R207). -/
def execTax (s : State) : Result := runInstr .implied 2 false tax s

/-- $A8 (R208). -/
def execTay (s : State) : Result := runInstr .implied 2 false tay s

/-- $8A (R209). -/
def execTxa (s : State) : Result := runInstr .implied 2 false txa s

/-- $98 (R210). -/
def execTya (s : State) : Result := runInstr .implied 2 false tya s

/-- $BA (R211). -/
def execTsx (s : State) : Result := runInstr .implied 2 false tsx s

/-- $9A (R212). -/
def execTxs (s : State) : Result := runInstr .implied 2 false txs s

/-- $48 (R213). -/
def execPha (s : State) : Result := runInstr .implied 3 false pha s

/-- $08 (R214). -/
def execPhp (s : State) : Result := runInstr .implied 3 false php s

/-- $68 (R215). -/
def execPla (s : State) : Result := runInstr .implied 4 false pla s

/-- $28 (R216). -/
def execPlp (s : State) : Result := runInstr .implied 4 false plp s

end Sys2Proof.Machine
end

