-- ==== Sys2Proof/Machine/Dispatch.lean ====
section
/-! DEFINITION. The dispatch: "a flat exhaustive mapping from byte value to handler" (spec/30_encoding.md R151), one arm per
constructor of Instr, in the order of the opcode table. -/

namespace Sys2Proof.Machine

def exec (i : Instr) (s : State) : Host.Outcome State Fault Refusal :=
  match i with
  | .brk => Sys2Proof.Machine.execBrk s
  | .oraIndX z => Sys2Proof.Machine.execOraIndX z s
  | .jam02 => Sys2Proof.Machine.execJam02 s
  | .sloIndX z => Sys2Proof.Machine.execSloIndX z s
  | .nopZp04 z => Sys2Proof.Machine.execNopZp04 z s
  | .oraZp z => Sys2Proof.Machine.execOraZp z s
  | .aslZp z => Sys2Proof.Machine.execAslZp z s
  | .sloZp z => Sys2Proof.Machine.execSloZp z s
  | .php => Sys2Proof.Machine.execPhp s
  | .oraImm k => Sys2Proof.Machine.execOraImm k s
  | .aslAcc => Sys2Proof.Machine.execAslAcc s
  | .ancImm0B k => Sys2Proof.Machine.execAncImm0B k s
  | .nopAbs w => Sys2Proof.Machine.execNopAbs w s
  | .oraAbs w => Sys2Proof.Machine.execOraAbs w s
  | .aslAbs w => Sys2Proof.Machine.execAslAbs w s
  | .sloAbs w => Sys2Proof.Machine.execSloAbs w s
  | .bpl d => Sys2Proof.Machine.execBpl d s
  | .oraIndY z => Sys2Proof.Machine.execOraIndY z s
  | .jam12 => Sys2Proof.Machine.execJam12 s
  | .sloIndY z => Sys2Proof.Machine.execSloIndY z s
  | .nopZpX14 z => Sys2Proof.Machine.execNopZpX14 z s
  | .oraZpX z => Sys2Proof.Machine.execOraZpX z s
  | .aslZpX z => Sys2Proof.Machine.execAslZpX z s
  | .sloZpX z => Sys2Proof.Machine.execSloZpX z s
  | .clc => Sys2Proof.Machine.execClc s
  | .oraAbsY w => Sys2Proof.Machine.execOraAbsY w s
  | .nop1A => Sys2Proof.Machine.execNop1A s
  | .sloAbsY w => Sys2Proof.Machine.execSloAbsY w s
  | .nopAbsX1C w => Sys2Proof.Machine.execNopAbsX1C w s
  | .oraAbsX w => Sys2Proof.Machine.execOraAbsX w s
  | .aslAbsX w => Sys2Proof.Machine.execAslAbsX w s
  | .sloAbsX w => Sys2Proof.Machine.execSloAbsX w s
  | .jsr w => Sys2Proof.Machine.execJsr w s
  | .andIndX z => Sys2Proof.Machine.execAndIndX z s
  | .jam22 => Sys2Proof.Machine.execJam22 s
  | .rlaIndX z => Sys2Proof.Machine.execRlaIndX z s
  | .bitZp z => Sys2Proof.Machine.execBitZp z s
  | .andZp z => Sys2Proof.Machine.execAndZp z s
  | .rolZp z => Sys2Proof.Machine.execRolZp z s
  | .rlaZp z => Sys2Proof.Machine.execRlaZp z s
  | .plp => Sys2Proof.Machine.execPlp s
  | .andImm k => Sys2Proof.Machine.execAndImm k s
  | .rolAcc => Sys2Proof.Machine.execRolAcc s
  | .ancImm2B k => Sys2Proof.Machine.execAncImm2B k s
  | .bitAbs w => Sys2Proof.Machine.execBitAbs w s
  | .andAbs w => Sys2Proof.Machine.execAndAbs w s
  | .rolAbs w => Sys2Proof.Machine.execRolAbs w s
  | .rlaAbs w => Sys2Proof.Machine.execRlaAbs w s
  | .bmi d => Sys2Proof.Machine.execBmi d s
  | .andIndY z => Sys2Proof.Machine.execAndIndY z s
  | .jam32 => Sys2Proof.Machine.execJam32 s
  | .rlaIndY z => Sys2Proof.Machine.execRlaIndY z s
  | .nopZpX34 z => Sys2Proof.Machine.execNopZpX34 z s
  | .andZpX z => Sys2Proof.Machine.execAndZpX z s
  | .rolZpX z => Sys2Proof.Machine.execRolZpX z s
  | .rlaZpX z => Sys2Proof.Machine.execRlaZpX z s
  | .sec => Sys2Proof.Machine.execSec s
  | .andAbsY w => Sys2Proof.Machine.execAndAbsY w s
  | .nop3A => Sys2Proof.Machine.execNop3A s
  | .rlaAbsY w => Sys2Proof.Machine.execRlaAbsY w s
  | .nopAbsX3C w => Sys2Proof.Machine.execNopAbsX3C w s
  | .andAbsX w => Sys2Proof.Machine.execAndAbsX w s
  | .rolAbsX w => Sys2Proof.Machine.execRolAbsX w s
  | .rlaAbsX w => Sys2Proof.Machine.execRlaAbsX w s
  | .rti => Sys2Proof.Machine.execRti s
  | .eorIndX z => Sys2Proof.Machine.execEorIndX z s
  | .jam42 => Sys2Proof.Machine.execJam42 s
  | .sreIndX z => Sys2Proof.Machine.execSreIndX z s
  | .nopZp44 z => Sys2Proof.Machine.execNopZp44 z s
  | .eorZp z => Sys2Proof.Machine.execEorZp z s
  | .lsrZp z => Sys2Proof.Machine.execLsrZp z s
  | .sreZp z => Sys2Proof.Machine.execSreZp z s
  | .pha => Sys2Proof.Machine.execPha s
  | .eorImm k => Sys2Proof.Machine.execEorImm k s
  | .lsrAcc => Sys2Proof.Machine.execLsrAcc s
  | .alrImm k => Sys2Proof.Machine.execAlrImm k s
  | .jmpAbs w => Sys2Proof.Machine.execJmpAbs w s
  | .eorAbs w => Sys2Proof.Machine.execEorAbs w s
  | .lsrAbs w => Sys2Proof.Machine.execLsrAbs w s
  | .sreAbs w => Sys2Proof.Machine.execSreAbs w s
  | .bvc d => Sys2Proof.Machine.execBvc d s
  | .eorIndY z => Sys2Proof.Machine.execEorIndY z s
  | .jam52 => Sys2Proof.Machine.execJam52 s
  | .sreIndY z => Sys2Proof.Machine.execSreIndY z s
  | .nopZpX54 z => Sys2Proof.Machine.execNopZpX54 z s
  | .eorZpX z => Sys2Proof.Machine.execEorZpX z s
  | .lsrZpX z => Sys2Proof.Machine.execLsrZpX z s
  | .sreZpX z => Sys2Proof.Machine.execSreZpX z s
  | .cli => Sys2Proof.Machine.execCli s
  | .eorAbsY w => Sys2Proof.Machine.execEorAbsY w s
  | .nop5A => Sys2Proof.Machine.execNop5A s
  | .sreAbsY w => Sys2Proof.Machine.execSreAbsY w s
  | .nopAbsX5C w => Sys2Proof.Machine.execNopAbsX5C w s
  | .eorAbsX w => Sys2Proof.Machine.execEorAbsX w s
  | .lsrAbsX w => Sys2Proof.Machine.execLsrAbsX w s
  | .sreAbsX w => Sys2Proof.Machine.execSreAbsX w s
  | .rts => Sys2Proof.Machine.execRts s
  | .adcIndX z => Sys2Proof.Machine.execAdcIndX z s
  | .jam62 => Sys2Proof.Machine.execJam62 s
  | .rraIndX z => Sys2Proof.Machine.execRraIndX z s
  | .nopZp64 z => Sys2Proof.Machine.execNopZp64 z s
  | .adcZp z => Sys2Proof.Machine.execAdcZp z s
  | .rorZp z => Sys2Proof.Machine.execRorZp z s
  | .rraZp z => Sys2Proof.Machine.execRraZp z s
  | .pla => Sys2Proof.Machine.execPla s
  | .adcImm k => Sys2Proof.Machine.execAdcImm k s
  | .rorAcc => Sys2Proof.Machine.execRorAcc s
  | .arrImm k => Sys2Proof.Machine.execArrImm k s
  | .jmpInd w => Sys2Proof.Machine.execJmpInd w s
  | .adcAbs w => Sys2Proof.Machine.execAdcAbs w s
  | .rorAbs w => Sys2Proof.Machine.execRorAbs w s
  | .rraAbs w => Sys2Proof.Machine.execRraAbs w s
  | .bvs d => Sys2Proof.Machine.execBvs d s
  | .adcIndY z => Sys2Proof.Machine.execAdcIndY z s
  | .jam72 => Sys2Proof.Machine.execJam72 s
  | .rraIndY z => Sys2Proof.Machine.execRraIndY z s
  | .nopZpX74 z => Sys2Proof.Machine.execNopZpX74 z s
  | .adcZpX z => Sys2Proof.Machine.execAdcZpX z s
  | .rorZpX z => Sys2Proof.Machine.execRorZpX z s
  | .rraZpX z => Sys2Proof.Machine.execRraZpX z s
  | .sei => Sys2Proof.Machine.execSei s
  | .adcAbsY w => Sys2Proof.Machine.execAdcAbsY w s
  | .nop7A => Sys2Proof.Machine.execNop7A s
  | .rraAbsY w => Sys2Proof.Machine.execRraAbsY w s
  | .nopAbsX7C w => Sys2Proof.Machine.execNopAbsX7C w s
  | .adcAbsX w => Sys2Proof.Machine.execAdcAbsX w s
  | .rorAbsX w => Sys2Proof.Machine.execRorAbsX w s
  | .rraAbsX w => Sys2Proof.Machine.execRraAbsX w s
  | .nopImm80 k => Sys2Proof.Machine.execNopImm80 k s
  | .staIndX z => Sys2Proof.Machine.execStaIndX z s
  | .nopImm82 k => Sys2Proof.Machine.execNopImm82 k s
  | .saxIndX z => Sys2Proof.Machine.execSaxIndX z s
  | .styZp z => Sys2Proof.Machine.execStyZp z s
  | .staZp z => Sys2Proof.Machine.execStaZp z s
  | .stxZp z => Sys2Proof.Machine.execStxZp z s
  | .saxZp z => Sys2Proof.Machine.execSaxZp z s
  | .dey => Sys2Proof.Machine.execDey s
  | .nopImm89 k => Sys2Proof.Machine.execNopImm89 k s
  | .txa => Sys2Proof.Machine.execTxa s
  | .aneImm k => Sys2Proof.Machine.execAneImm k s
  | .styAbs w => Sys2Proof.Machine.execStyAbs w s
  | .staAbs w => Sys2Proof.Machine.execStaAbs w s
  | .stxAbs w => Sys2Proof.Machine.execStxAbs w s
  | .saxAbs w => Sys2Proof.Machine.execSaxAbs w s
  | .bcc d => Sys2Proof.Machine.execBcc d s
  | .staIndY z => Sys2Proof.Machine.execStaIndY z s
  | .jam92 => Sys2Proof.Machine.execJam92 s
  | .shaIndY z => Sys2Proof.Machine.execShaIndY z s
  | .styZpX z => Sys2Proof.Machine.execStyZpX z s
  | .staZpX z => Sys2Proof.Machine.execStaZpX z s
  | .stxZpY z => Sys2Proof.Machine.execStxZpY z s
  | .saxZpY z => Sys2Proof.Machine.execSaxZpY z s
  | .tya => Sys2Proof.Machine.execTya s
  | .staAbsY w => Sys2Proof.Machine.execStaAbsY w s
  | .txs => Sys2Proof.Machine.execTxs s
  | .tasAbsY w => Sys2Proof.Machine.execTasAbsY w s
  | .shyAbsX w => Sys2Proof.Machine.execShyAbsX w s
  | .staAbsX w => Sys2Proof.Machine.execStaAbsX w s
  | .shxAbsY w => Sys2Proof.Machine.execShxAbsY w s
  | .shaAbsY w => Sys2Proof.Machine.execShaAbsY w s
  | .ldyImm k => Sys2Proof.Machine.execLdyImm k s
  | .ldaIndX z => Sys2Proof.Machine.execLdaIndX z s
  | .ldxImm k => Sys2Proof.Machine.execLdxImm k s
  | .laxIndX z => Sys2Proof.Machine.execLaxIndX z s
  | .ldyZp z => Sys2Proof.Machine.execLdyZp z s
  | .ldaZp z => Sys2Proof.Machine.execLdaZp z s
  | .ldxZp z => Sys2Proof.Machine.execLdxZp z s
  | .laxZp z => Sys2Proof.Machine.execLaxZp z s
  | .tay => Sys2Proof.Machine.execTay s
  | .ldaImm k => Sys2Proof.Machine.execLdaImm k s
  | .tax => Sys2Proof.Machine.execTax s
  | .lxaImm k => Sys2Proof.Machine.execLxaImm k s
  | .ldyAbs w => Sys2Proof.Machine.execLdyAbs w s
  | .ldaAbs w => Sys2Proof.Machine.execLdaAbs w s
  | .ldxAbs w => Sys2Proof.Machine.execLdxAbs w s
  | .laxAbs w => Sys2Proof.Machine.execLaxAbs w s
  | .bcs d => Sys2Proof.Machine.execBcs d s
  | .ldaIndY z => Sys2Proof.Machine.execLdaIndY z s
  | .jamB2 => Sys2Proof.Machine.execJamB2 s
  | .laxIndY z => Sys2Proof.Machine.execLaxIndY z s
  | .ldyZpX z => Sys2Proof.Machine.execLdyZpX z s
  | .ldaZpX z => Sys2Proof.Machine.execLdaZpX z s
  | .ldxZpY z => Sys2Proof.Machine.execLdxZpY z s
  | .laxZpY z => Sys2Proof.Machine.execLaxZpY z s
  | .clv => Sys2Proof.Machine.execClv s
  | .ldaAbsY w => Sys2Proof.Machine.execLdaAbsY w s
  | .tsx => Sys2Proof.Machine.execTsx s
  | .lasAbsY w => Sys2Proof.Machine.execLasAbsY w s
  | .ldyAbsX w => Sys2Proof.Machine.execLdyAbsX w s
  | .ldaAbsX w => Sys2Proof.Machine.execLdaAbsX w s
  | .ldxAbsY w => Sys2Proof.Machine.execLdxAbsY w s
  | .laxAbsY w => Sys2Proof.Machine.execLaxAbsY w s
  | .cpyImm k => Sys2Proof.Machine.execCpyImm k s
  | .cmpIndX z => Sys2Proof.Machine.execCmpIndX z s
  | .nopImmC2 k => Sys2Proof.Machine.execNopImmC2 k s
  | .dcpIndX z => Sys2Proof.Machine.execDcpIndX z s
  | .cpyZp z => Sys2Proof.Machine.execCpyZp z s
  | .cmpZp z => Sys2Proof.Machine.execCmpZp z s
  | .decZp z => Sys2Proof.Machine.execDecZp z s
  | .dcpZp z => Sys2Proof.Machine.execDcpZp z s
  | .iny => Sys2Proof.Machine.execIny s
  | .cmpImm k => Sys2Proof.Machine.execCmpImm k s
  | .dex => Sys2Proof.Machine.execDex s
  | .sbxImm k => Sys2Proof.Machine.execSbxImm k s
  | .cpyAbs w => Sys2Proof.Machine.execCpyAbs w s
  | .cmpAbs w => Sys2Proof.Machine.execCmpAbs w s
  | .decAbs w => Sys2Proof.Machine.execDecAbs w s
  | .dcpAbs w => Sys2Proof.Machine.execDcpAbs w s
  | .bne d => Sys2Proof.Machine.execBne d s
  | .cmpIndY z => Sys2Proof.Machine.execCmpIndY z s
  | .jamD2 => Sys2Proof.Machine.execJamD2 s
  | .dcpIndY z => Sys2Proof.Machine.execDcpIndY z s
  | .nopZpXD4 z => Sys2Proof.Machine.execNopZpXD4 z s
  | .cmpZpX z => Sys2Proof.Machine.execCmpZpX z s
  | .decZpX z => Sys2Proof.Machine.execDecZpX z s
  | .dcpZpX z => Sys2Proof.Machine.execDcpZpX z s
  | .cld => Sys2Proof.Machine.execCld s
  | .cmpAbsY w => Sys2Proof.Machine.execCmpAbsY w s
  | .nopDA => Sys2Proof.Machine.execNopDA s
  | .dcpAbsY w => Sys2Proof.Machine.execDcpAbsY w s
  | .nopAbsXDC w => Sys2Proof.Machine.execNopAbsXDC w s
  | .cmpAbsX w => Sys2Proof.Machine.execCmpAbsX w s
  | .decAbsX w => Sys2Proof.Machine.execDecAbsX w s
  | .dcpAbsX w => Sys2Proof.Machine.execDcpAbsX w s
  | .cpxImm k => Sys2Proof.Machine.execCpxImm k s
  | .sbcIndX z => Sys2Proof.Machine.execSbcIndX z s
  | .nopImmE2 k => Sys2Proof.Machine.execNopImmE2 k s
  | .iscIndX z => Sys2Proof.Machine.execIscIndX z s
  | .cpxZp z => Sys2Proof.Machine.execCpxZp z s
  | .sbcZp z => Sys2Proof.Machine.execSbcZp z s
  | .incZp z => Sys2Proof.Machine.execIncZp z s
  | .iscZp z => Sys2Proof.Machine.execIscZp z s
  | .inx => Sys2Proof.Machine.execInx s
  | .sbcImm k => Sys2Proof.Machine.execSbcImm k s
  | .nop => Sys2Proof.Machine.execNop s
  | .usbcImm k => Sys2Proof.Machine.execUsbcImm k s
  | .cpxAbs w => Sys2Proof.Machine.execCpxAbs w s
  | .sbcAbs w => Sys2Proof.Machine.execSbcAbs w s
  | .incAbs w => Sys2Proof.Machine.execIncAbs w s
  | .iscAbs w => Sys2Proof.Machine.execIscAbs w s
  | .beq d => Sys2Proof.Machine.execBeq d s
  | .sbcIndY z => Sys2Proof.Machine.execSbcIndY z s
  | .jamF2 => Sys2Proof.Machine.execJamF2 s
  | .iscIndY z => Sys2Proof.Machine.execIscIndY z s
  | .nopZpXF4 z => Sys2Proof.Machine.execNopZpXF4 z s
  | .sbcZpX z => Sys2Proof.Machine.execSbcZpX z s
  | .incZpX z => Sys2Proof.Machine.execIncZpX z s
  | .iscZpX z => Sys2Proof.Machine.execIscZpX z s
  | .sed => Sys2Proof.Machine.execSed s
  | .sbcAbsY w => Sys2Proof.Machine.execSbcAbsY w s
  | .nopFA => Sys2Proof.Machine.execNopFA s
  | .iscAbsY w => Sys2Proof.Machine.execIscAbsY w s
  | .nopAbsXFC w => Sys2Proof.Machine.execNopAbsXFC w s
  | .sbcAbsX w => Sys2Proof.Machine.execSbcAbsX w s
  | .incAbsX w => Sys2Proof.Machine.execIncAbsX w s
  | .iscAbsX w => Sys2Proof.Machine.execIscAbsX w s

end Sys2Proof.Machine
end

