-- ==== Sys2Proof/Machine/Loop.lean ====
section
/-! DEFINITION. What happens next: one instruction (spec/30_encoding.md R150), one CPU dispatch (spec/60_exceptions.md R502,
R520), one PPU dot (R560, R568), one call of the coordinator (R530), and which of them is due. -/

namespace Sys2Proof.Machine

/-- `DOTS_PER_CYCLE` (R11, R530, D28). -/
def dotsPerCycle : Nat := 3

/-- `ExecuteInstruction()`: fetch the instruction's bytes, decode them, run the instruction (R150). The fault is
unreachable: the table is total (R151). -/
def executeInstruction (s : State) : Result :=
  let f := s.fetchInstr
  match decode f.1 with
  | .ok (i, _) => exec i f.2
  | .error _ => .fault .unhandledOpcode

/-- One iteration of the loop of `CpuAdvanceTo`: a jammed or refused core lets time pass; else an NMI entry, else an IRQ
entry (never in this system), else a DMA transfer, else one instruction (R502, R510, R520). -/
def cpuDispatch (s : State) : Result :=
  if s.jammed || s.refused then .next { s with cycles := s.master }
  else if s.nmiPending then .next s.nmiEntry
  else if s.irqLine && !s.p.i then .next s.irqEntry
  else if s.dmaPending then .next s.dmaTransfer
  else executeInstruction s

/-- One iteration of the loop of `PpuAdvanceTo`: `PpuTick()`, which may raise NMI, then ppu_done + 1 (R560, R561, R568). -/
def State.ppuStep (s : State) : State :=
  let u := s.ppu.tick s.params.vblankClearOffset
  { s with ppu := { u with done := u.done + 1 }, nmiPending := s.nmiPending || s.ppu.raisesNmi }

/-- The start of the host's next `Step(n)`: master <- master + n (R530). Where the host calls no further step, nothing
happens (log 2). -/
def State.hostStep (s : State) : State :=
  match s.hostSteps with
  | [] => s
  | n :: rest => { s with master := s.master + n, hostSteps := rest }

/-- The CPU's loop goes on: cycles < target and stop = 0 (R520), where the target is `master` (R530). -/
def State.cpuDue (s : State) : Bool := decide (s.cycles < s.master) && !s.stop

/-- The PPU's loop goes on: ppu_done < target and stop = 0 (R560), where the target is 3 · master (R530). -/
def State.ppuDue (s : State) : Bool := decide (s.ppu.done < dotsPerCycle * s.master) && !s.stop

/-- What happens next: within a `Step(n)` the CPU's dispatches, then the PPU's dots; when both loops have ended, the next
`Step(n)` starts (R530, log 1). -/
def advance (s : State) : Result :=
  if s.cpuDue then cpuDispatch s
  else if s.ppuDue then .next s.ppuStep
  else .next s.hostStep

/-- Whether an instruction fetch at `a` reads storage. -/
def fetchesStorage (a : Addr) : Bool :=
  match readClass (redirect a) with
  | .ram => true
  | .flat => true
  | .ppuRegister _ => false
  | .controller _ => false

/-- The longest instruction at `a` lies in storage. -/
def placeable (a : Addr) : Bool := fetchesStorage a && fetchesStorage (a + 1) && fetchesStorage (a + 2)

/-- The bytes placed in storage from `a` upwards, as an image is placed at load: past the mapper range, not through it
(R602). -/
def State.place (s : State) : Addr → List Byte → State
  | _, [] => s
  | a, b :: bs => State.place { s with mem := s.mem.write (redirect a).toNat b } (a + 1) bs

/-- A program loaded from outside (log 8): the bytes at PC (at $0000 where PC points into device registers), the core
neither stopped, jammed nor refused, no event pending, and the CPU's loop due. -/
def State.placeProgram (s : State) (bytes : List Byte) : State :=
  let pc := if placeable s.pc then s.pc else 0
  { s with
    pc := pc, stop := false, jammed := false, refused := false
    nmiPending := false, irqLine := false, dmaPending := false
    master := max s.master (s.cycles + 1) }.place pc bytes

end Sys2Proof.Machine
end

