-- ==== Sys2Proof/Machine/Step.lean ====
section
/-! DEFINITION. One step of the machine, and a state whose next step runs a given instruction. -/

namespace Sys2Proof.Machine

/-- One step: one CPU dispatch, one PPU dot, or the start of the host's next `Step(n)` (log 1). -/
def step (s : State) : Host.Outcome State Fault Refusal := advance s

/-- s with the instruction whose bits are w placed where `step` fetches next (log 8). -/
def State.withFetchWord (s : State) (nbits w : Nat) : State := s.placeProgram (tableBytes nbits w)

end Sys2Proof.Machine
end

