-- ==== Sys2Proof/Machine/Boundary.lean ====
section
/-! DEFINITION. The boundary entry points beside `step` (spec/70_reset_and_hazards.md R606): load with its ROM file format
(R602–R605), query stop-requested (spec/60_exceptions.md R531) and the presentation read access (R533). Power-on (R600) is
`State.powerOn`. -/

namespace Sys2Proof.Machine

/-- PRG[i mod |PRG|] for i in 0 .. 32767: a 16 KiB image is mirrored (R602). -/
def programImage (prg : List Byte) : List Byte := if prg.length = 16384 then prg ++ prg else prg

/-- `Load(PRG, CHR, MIRRORING)` for the fixed mapper. The copy writes the storage directly (R602). -/
def loadImage (c : Cartridge) (s : State) : State :=
  let mem := s.mem.writeBlock 0x8000 (programImage c.prg)
  { s with
    mem := mem, mapperRange := ⟨0x8000, 0xFFFF⟩
    pc := word16 (mem.read (resetVector + 1).toNat) (mem.read resetVector.toNat)
    ppu := { s.ppu with vram := s.ppu.vram.writeBlock 0 c.chr, mirroring := c.mirroring } }

/-- The fields of the 16-byte ROM header that feed the core (R604). -/
structure RomHeader where
  magic : List Byte
  prgUnits : Byte
  chrUnits : Byte
  flags6 : Byte
  flags7 : Byte
  deriving DecidableEq, Repr

/-- The first 16 bytes of a file, where it has them (R604). -/
def RomHeader.parse (file : List Byte) : Option RomHeader :=
  match file with
  | b0 :: b1 :: b2 :: b3 :: p :: c :: f6 :: f7 :: rest =>
    if rest.length < 8 then none else some ⟨[b0, b1, b2, b3], p, c, f6, f7⟩
  | _ => none

/-- "NES" then $1A (R604). -/
def romMagic : List Byte := [0x4E, 0x45, 0x53, 0x1A]

/-- Flags 7, where $44 is treated as $00 (R604). -/
def RomHeader.effectiveFlags7 (h : RomHeader) : Byte := if h.flags7 = 0x44 then 0 else h.flags7

/-- `{flags7[7:4], flags6[7:4]}` (R604). -/
def RomHeader.mapperId (h : RomHeader) : Byte := h.effectiveFlags7.extractLsb' 4 4 ++ h.flags6.extractLsb' 4 4

/-- 512 bytes to skip, where flags 6 bit 2 signals a trainer (R604). -/
def RomHeader.trainerBytes (h : RomHeader) : Nat := if h.flags6.getLsbD 2 then 512 else 0

def RomHeader.prgBytes (h : RomHeader) : Nat := 16384 * h.prgUnits.toNat

def RomHeader.chrBytes (h : RomHeader) : Nat := 8192 * h.chrUnits.toNat

/-- Bit 0 of flags 6: 1 vertical, 0 horizontal (R123, D45). -/
def RomHeader.mirroring (h : RomHeader) : Mirroring := if h.flags6.getLsbD 0 then .vertical else .horizontal

/-- The size the header says the file has at least (R605, D51). -/
def RomHeader.fileBytes (h : RomHeader) : Nat := 16 + h.trainerBytes + h.prgBytes + h.chrBytes

/-- The load error of a header and file length, if there is one (R605, D51; the order of the checks: log 17). -/
def RomHeader.loadError (h : RomHeader) (fileLength : Nat) : Option Fault :=
  if h.magic ≠ romMagic then some .malformedHeader
  else if h.mapperId ≠ 0 then some .unsupportedMapper
  else if h.prgUnits ≠ 1 ∧ h.prgUnits ≠ 2 then some .unsupportedSize
  else if h.chrUnits ≠ 0 ∧ h.chrUnits ≠ 1 then some .unsupportedSize
  else if fileLength < h.fileBytes then some .truncatedFile
  else none

/-- The images of a file: after the header and the trainer come the program image, then the graphics image (R604). -/
def RomHeader.cartridge (h : RomHeader) (file : List Byte) : Cartridge :=
  let body := file.drop (16 + h.trainerBytes)
  { prg := body.take h.prgBytes, chr := (body.drop h.prgBytes).take h.chrBytes, mirroring := h.mirroring }

/-- Program load from a ROM file: on an error, a fault and no state (R602, R604, R605). -/
def loadFile (file : List Byte) (s : State) : Result :=
  match RomHeader.parse file with
  | none => .fault .malformedHeader
  | some h =>
    match h.loadError file.length with
    | some e => .fault e
    | none => .next (loadImage (h.cartridge file) s)

/-- Query stop-requested (R531). -/
def State.stopRequested (s : State) : Bool := s.stop

/-- What the presentation collaborator reads: video memory, sprite memory and the scroll registers (R533). -/
structure Presentation where
  vram : Mem
  oam : Mem
  t : BitVec 15
  v : BitVec 15
  x : BitVec 3
  deriving DecidableEq, Repr

/-- The presentation read access: it changes no state (R533). -/
def State.presentation (s : State) : Presentation := ⟨s.ppu.vram, s.ppu.oam, s.ppu.t, s.ppu.v, s.ppu.x⟩

end Sys2Proof.Machine
end

