-- ==== Sys2Proof/Safety.lean ====
section
/-! DEFINITION. What counts as a safe run: the invariant every step keeps, and runs that meet no refusal mark; and the
words the statements are made of. -/

namespace Sys2Proof.Machine

/-- The PPU's position lies in the frame: dot 0–340, scanline 0–261 (spec/10_state.md R56). -/
def Ppu.positionWf (u : Ppu) : Bool := decide (u.dot ≤ 340) && decide (u.scanline ≤ 261)

/-- The invariant: the three memories are in canonical form, within their sizes (R50, R52, R53), the PPU's position lies
in the frame (R56), and the mapper range is as R91 requires. -/
def State.wf (s : State) : Bool :=
  s.mem.wf 0x10000 && s.ppu.vram.wf 0x4000 && s.ppu.oam.wf 0x100 && s.ppu.positionWf && s.mapperRange.wellFormed

/-- A run of k steps that stops at no fault and no refusal and never reaches the refusal mark: "a run with refused = 1
satisfies no claim" (R46). -/
def safeRun (k : Nat) (s : State) : Prop := ∃ t, Sys2Proof.core.run k s = .next t ∧ t.refused = false

/-- The index in memory of the stack cell at SP = b: $0100 + b (R34). -/
def stackIndex (b : Byte) : Nat := 0x0100 + b.toNat

/-- Where a CPU address is stored, as R90 gives it on numbers. -/
def storageIndex (a : Nat) : Nat :=
  if a < 0x2000 then a % 0x0800 else if a < 0x4000 then 0x2000 + a % 8 else a

/-- The position (scanline, dot) of the PPU. -/
def Ppu.position (u : Ppu) : Nat × Nat := (u.scanline, u.dot)

end Sys2Proof.Machine

namespace Sys2Proof

/-- The cycles of R150 and R152 for an instruction whose page-crossing penalty applies to the opcodes listed: the row's
base count, plus 1 if the opcode is listed and the resolver crossed a page. -/
def Instr.costWith (i : Instr) (penalized : List Byte) (cross : Bool) : Nat :=
  i.row.cycles + if i.opcode ∈ penalized ∧ cross = true then 1 else 0

/-- The addressing mode of an instruction together with its opcode, as an encoding line of an instruction's rule lists
them. -/
def Instr.form (i : Instr) : Byte × Mode := (i.opcode, i.operand.mode)

end Sys2Proof
end

