-- ==== Sys2Proof/Certificates/Slice0/Obligations.lean ====
section
/-! DEFINITION. The statements for the provers. Where a statement runs over all instructions it says its result through the
resolver and the bus operations, which have statements of their own (AddressModes, BusReadByAddress, BusWriteByAddress).
exec starts after the fetch: PC is the address after the instruction. -/

open Sys2Proof Sys2Proof.Machine

/-- Decoding an encoded instruction gives it back, with the bytes after it. Derived from 30_encoding.md R140,
30_encoding.md R141, 30_encoding.md R175. -/
def Obligations.DecodeInvertsEncode : Prop :=
  ∀ (i : Instr) (rest : List Byte), i.wellFormed = true → decode (encode i ++ rest) = .ok (i, rest)

/-- What the decoder reads is exactly the encoding of what it answers. Derived from 30_encoding.md R140, 30_encoding.md
R182. -/
def Obligations.DecodedBytesAreTheEncoding : Prop :=
  ∀ (bytes rest : List Byte) (i : Instr), decode bytes = .ok (i, rest) → bytes = encode i ++ rest

/-- Every opcode byte with any operand bytes is an instruction of its own row. Formalises R151, R182. -/
def Obligations.EveryOpcodeDecodes : Prop :=
  ∀ (op b c : Byte) (rest : List Byte), ∃ i : Instr,
    i.opcode = op ∧ decode (op :: b :: c :: rest) = .ok (i, (b :: c :: rest).drop i.row.mode.operandBytes) ∧
    ∀ s : State, ∃ t, exec i s = .next t

/-- An instruction is 1 plus its mode's operand bytes long, and its mode is its row's. Formalises R142. -/
def Obligations.InstructionLengthFollowsMode : Prop :=
  (∀ i : Instr, (encode i).length = 1 + i.row.mode.operandBytes ∧ i.operand.mode = i.row.mode ∧
      i.row.length = (encode i).length) ∧
    [Mode.implied, .accumulator, .immediate, .zeroPage, .zeroPageX, .zeroPageY, .absolute, .absoluteX, .absoluteY,
        .indirect, .indexedIndirect, .indirectIndexed, .relative].map Mode.operandBytes =
      [0, 0, 1, 1, 1, 1, 2, 2, 2, 2, 1, 1, 1] ∧
    Instr.brk.row.mode = .implied

/-- Words written out from the spec's encodings decode to their instructions. Derived from 30_encoding.md R190,
95_test_vectors.md. -/
def Obligations.SampleEncodingsDecode : Prop :=
  decode [0xA9, 0x10] = .ok (.ldaImm 0x10, []) ∧ decode [0x8D, 0x00, 0x02] = .ok (.staAbs 0x0200, []) ∧
    decode [0x0A] = .ok (.aslAcc, []) ∧ decode [0x6C, 0xFF, 0x02] = .ok (.jmpInd 0x02FF, []) ∧
    decode [0xD0, 0xFC] = .ok (.bne 0xFC, []) ∧ decode [0xB1, 0x40] = .ok (.ldaIndY 0x40, []) ∧
    decode [0x9F, 0x00, 0x12] = .ok (.shaAbsY 0x1200, []) ∧ decode [0x02] = .ok (.jam02, []) ∧
    decode [0x00] = .ok (.brk, [])

/-- A step runs the instruction at PC on the state with PC past it. Derived from 30_encoding.md R150, 30_encoding.md
R140, 20_memory.md R114, 60_exceptions.md R520. -/
def Obligations.StepRunsDecodedInstruction : Prop :=
  ∀ (s : State) (i : Instr),
    s.cycles < s.master → s.stop = false → s.jammed = false → s.refused = false → s.nmiPending = false →
    s.irqLine = false → s.dmaPending = false → i.wellFormed = true →
    (((∀ n < (encode i).length, fetchesStorage (s.pc + BitVec.ofNat 16 n) = true ∧
        s.mem.read (redirect (s.pc + BitVec.ofNat 16 n)).toNat = (encode i).getD n 0) →
      step s = exec i { s with pc := s.pc + BitVec.ofNat 16 (encode i).length }) ∧
    (∀ rest, decode s.fetchInstr.1 = .ok (i, rest) →
      step s = exec i s.fetchInstr.2 ∧ s.fetchInstr.2.pc = s.pc + BitVec.ofNat 16 (encode i).length))

/-- The instruction placed by withFetchWord is the one the next step runs. Derived from notes/assumptions/8.md,
70_reset_and_hazards.md R602. -/
def Obligations.PlacedInstructionRunsNext : Prop :=
  ∀ (s : State) (nbits w : Nat) (i : Instr), decodeTableWord nbits w = some i →
    let p := s.withFetchWord nbits w
    step p = exec i { p with pc := p.pc + BitVec.ofNat 16 i.row.length }

/-- No step of the machine faults or is refused, in any state. Derived from 60_exceptions.md R500, 20_memory.md R97,
30_encoding.md R151. -/
def Obligations.EveryStepGoesOn : Prop :=
  ∀ s : State, ∃ t, step s = .next t

/-- Every instruction answers a next state from every state. Derived from 30_encoding.md R180, 30_encoding.md R151. -/
def Obligations.EveryInstructionCompletes : Prop :=
  ∀ (i : Instr) (s : State), ∃ t, exec i s = .next t

/-- Every step keeps the memories canonical and in size, the PPU in its frame, the mapper range legal. Derived from
10_state.md R50, 10_state.md R52, 10_state.md R53, 10_state.md R56, 20_memory.md R91. -/
def Obligations.StepKeepsWellFormedState : Prop :=
  ∀ s t : State, s.wf = true → step s = .next t → t.wf = true

/-- The reset state is well formed. Derived from 10_state.md R58, notes/assumptions/3.md. -/
def Obligations.ResetStateWellFormed : Prop :=
  State.reset.wf = true

/-- No step changes a cell of the mapper range, or a cell that redirection or a register hides. Derived from
20_memory.md R93, 20_memory.md R104, 10_state.md R50, 70_reset_and_hazards.md R611. -/
def Obligations.ReadOnlyCellsNeverChange : Prop :=
  ∀ s t : State, step s = .next t →
    t.mapperRange = s.mapperRange ∧ t.ppu.mirroring = s.ppu.mirroring ∧ t.params = s.params ∧
    ∀ a : Nat,
      (0x0800 ≤ a ∧ a < 0x4000) ∨ a = 0x4014 ∨ a = 0x4016 ∨
        (0x4018 ≤ a ∧ s.mapperRange.first.toNat ≤ a ∧ a ≤ s.mapperRange.last.toNat) →
      t.mem.read a = s.mem.read a

/-- Once stop is set, steps change nothing but master, and it stays set. Derived from 60_exceptions.md R531, 10_state.md
R44, 60_exceptions.md R575. -/
def Obligations.StoppedMachineOnlyCountsTime : Prop :=
  ∀ s : State, s.stop = true →
    (∀ n rest, s.hostSteps = n :: rest → step s = .next { s with master := s.master + n, hostSteps := rest }) ∧
    (s.hostSteps = [] → step s = .next s)

/-- Stop is set by BRK alone, jammed by JAM alone, refused by the unstable stores alone; none is cleared. Derived from
10_state.md R44, 60_exceptions.md R531, 60_exceptions.md R502, 60_exceptions.md R520, 43_illegal.md R440,
43_illegal.md R430, notes/assumptions/13.md. The clause on the IRQ input rests on the model's choice of log 13. -/
def Obligations.OnlyBrkStopsTheMachine : Prop :=
  (∀ (i : Instr) (s t : State), exec i s = .next t →
      t.stop = (s.stop || i.row.mnemonic == "BRK") ∧
      t.jammed = (s.jammed || (i.row.mnemonic == "JAM" && s.params.jamPolicy == .halt)) ∧
      t.refused = (s.refused || (decide (i.row.mnemonic ∈ ["SHA", "SHX", "SHY", "TAS"]) &&
        s.params.unstableStore == .refuse))) ∧
    ∀ s t : State, step s = .next t →
      (s.stop = true → t.stop = true) ∧ (s.jammed = true → t.jammed = true) ∧ (s.refused = true → t.refused = true) ∧
      (s.stop = false → t.stop = true →
        s.jammed = false ∧ s.refused = false ∧ s.nmiPending = false ∧ s.dmaPending = false ∧
        (s.irqLine = false ∨ s.p.i = true) ∧ s.cycles < s.master ∧
        decode s.fetchInstr.1 = .ok (.brk, []) ∧ exec .brk s.fetchInstr.2 = .next t)

/-- Except where P is pushed, pulled or D itself is written, no instruction looks at the decimal flag. Derived from
41_alu.md R281, 10_state.md R39. -/
def Obligations.DecimalFlagIsInert : Prop :=
  ∀ (i : Instr) (s t : State) (b : Bool), i.row.mnemonic ∉ ["PHP", "BRK", "SED", "CLD", "PLP", "RTI"] →
    exec i s = .next t →
    exec i { s with p := { s.p with d := b } } = .next { t with p := { t.p with d := b } }

/-- An instruction costs its row's base count, plus 1 on a page crossing where the row has page_penalty. Derived from
30_encoding.md R150, 30_encoding.md R152, 10_state.md R43, notes/assumptions/12.md. Under REFUSE the cost of SHA,
SHX, SHY and TAS is the model's choice (log 12). -/
def Obligations.CyclesAreBaseCountPlusPagePenalty : Prop :=
  ∀ (i : Instr) (s : State),
    ((resolve i.operand s).1.cross = true → i.operand.mode ∈ [Mode.absoluteX, .absoluteY, .indirectIndexed]) ∧
    (i.operand.mode = .relative ∨ i.row.mnemonic = "JAM" → i.row.pagePenalty = false) ∧
    (i.operand.mode ≠ .relative → i.row.mnemonic ≠ "JAM" → ∃ t, exec i s = .next t ∧
      t.cycles = s.cycles + i.row.cycles +
        if i.row.pagePenalty = true ∧ (resolve i.operand s).1.cross = true then 1 else 0)

/-- The fetch moves PC past the instruction, and only control transfers move it further. Derived from 10_state.md R35,
30_encoding.md R150, 95_test_vectors.md S1. -/
def Obligations.PcPassesTheInstruction : Prop :=
  (∀ (s : State) (i : Instr) (rest : List Byte), decode s.fetchInstr.1 = .ok (i, rest) →
      rest = [] ∧ s.fetchInstr.2.pc.toNat = (s.pc.toNat + i.row.length) % 0x10000) ∧
    ∀ (i : Instr) (s t : State), i.row.mnemonic ∉ ["JMP", "JSR", "RTS", "RTI", "BRK"] → i.operand.mode ≠ .relative →
      exec i s = .next t → t.pc = s.pc

/-- CPU dispatches, then PPU dots, then the next Step(n); NMI before DMA before an instruction. Derived from
60_exceptions.md R502, 60_exceptions.md R520, 60_exceptions.md R530, 60_exceptions.md R560, 60_exceptions.md R510. -/
def Obligations.DispatchAndCoordinatorOrder : Prop :=
  ∀ s : State, s.stop = false →
    (s.cycles < s.master →
      (s.jammed = true ∨ s.refused = true → step s = .next { s with cycles := s.master }) ∧
      (s.jammed = false → s.refused = false →
        (s.nmiPending = true → step s = .next s.nmiEntry) ∧
        (s.nmiPending = false → s.irqLine = true → s.p.i = false → step s = .next s.irqEntry) ∧
        (s.nmiPending = false → s.irqLine = false ∨ s.p.i = true → s.dmaPending = true →
          step s = .next s.dmaTransfer) ∧
        (s.nmiPending = false → s.irqLine = false ∨ s.p.i = true → s.dmaPending = false →
          step s = executeInstruction s))) ∧
    (s.master ≤ s.cycles →
      (s.ppu.done < 3 * s.master → step s = .next s.ppuStep) ∧
      (3 * s.master ≤ s.ppu.done → ∀ n rest, s.hostSteps = n :: rest →
        step s = .next { s with master := s.master + n, hostSteps := rest }))

/-- The base counts of the opcode table follow the mode and class table of R621. Derived from 70_reset_and_hazards.md
R621, 30_encoding.md R152. -/
def Obligations.CycleCountsByModeAndClass : Prop :=
  ∀ i : Instr,
    let read := ["ADC", "AND", "BIT", "CMP", "CPX", "CPY", "EOR", "LDA", "LDX", "LDY", "ORA", "SBC", "LAX", "LAS", "ANC", "ALR", "ARR",
        "SBX", "USBC", "ANE", "LXA", "NOP"]
    let store := ["STA", "STX", "STY", "SAX", "SHA", "SHX", "SHY", "TAS"]
    let modify := ["ASL", "LSR", "ROL", "ROR", "INC", "DEC", "SLO", "RLA", "SRE", "RRA", "DCP", "ISC"]
    let mn := i.row.mnemonic
    let cycles := i.row.cycles
    (i.row.pagePenalty = true ↔
      mn ∈ read ∧ i.operand.mode ∈ [Mode.absoluteX, .absoluteY, .indirectIndexed]) ∧
    match i.operand.mode with
    | .implied =>
      cycles = if mn ∈ ["PHA", "PHP"] then 3 else if mn ∈ ["PLA", "PLP"] then 4
        else if mn ∈ ["RTS", "RTI"] then 6 else if mn = "BRK" then 7 else 2
    | .accumulator => mn ∈ modify ∧ cycles = 2
    | .immediate => mn ∈ read ∧ cycles = 2
    | .zeroPage => (mn ∈ read ∨ mn ∈ store) ∧ cycles = 3 ∨ mn ∈ modify ∧ cycles = 5
    | .zeroPageX => (mn ∈ read ∨ mn ∈ store) ∧ cycles = 4 ∨ mn ∈ modify ∧ cycles = 6
    | .zeroPageY => (mn ∈ read ∨ mn ∈ store) ∧ cycles = 4
    | .absolute =>
      (mn ∈ read ∨ mn ∈ store) ∧ cycles = 4 ∨ mn ∈ modify ∧ cycles = 6 ∨ mn = "JMP" ∧ cycles = 3 ∨
        mn = "JSR" ∧ cycles = 6
    | .absoluteX => mn ∈ read ∧ cycles = 4 ∨ mn ∈ ["STA", "SHY"] ∧ cycles = 5 ∨ mn ∈ modify ∧ cycles = 7
    | .absoluteY =>
      mn ∈ read ∧ cycles = 4 ∨ mn ∈ ["STA", "SHA", "SHX", "TAS"] ∧ cycles = 5 ∨ mn ∈ modify ∧ cycles = 7
    | .indirect => mn = "JMP" ∧ cycles = 5
    | .indexedIndirect => (mn ∈ read ∨ mn ∈ store) ∧ cycles = 6 ∨ mn ∈ modify ∧ cycles = 8
    | .indirectIndexed =>
      mn ∈ read ∧ cycles = 5 ∨ mn ∈ ["STA", "SHA"] ∧ cycles = 6 ∨ mn ∈ modify ∧ cycles = 8
    | .relative => cycles = 2

/-- NMI entry pushes PC and status, sets I, vectors through $FFFA and clears the request, which nothing else clears.
Formalises R503, R505. -/
def Obligations.NmiEntrySavesAndVectors : Prop :=
  ∀ s : State,
    s.nmiEntry =
      { s with
        nmiPending := false
        mem :=
          ((s.mem.write (stackIndex s.sp) (hi s.pc)).write (stackIndex (s.sp - 1)) (lo s.pc)).write
            (stackIndex (s.sp - 2))
            (BitVec.ofBool s.p.n ++ BitVec.ofBool s.p.v ++ 0b10#2 ++ BitVec.ofBool s.p.d ++ BitVec.ofBool s.p.i ++
              BitVec.ofBool s.p.z ++ BitVec.ofBool s.p.c)
        sp := s.sp - 3, p := { s.p with i := true }
        pc := word16 (s.mem.read 0xFFFB) (s.mem.read 0xFFFA), cycles := s.cycles + s.params.nmiCycles } ∧
    ∀ t, step s = .next t → s.nmiPending = true → t.nmiPending = true ∨ t = s.nmiEntry

/-- RTI after an NMI or IRQ entry restores the interrupted PC, all six flags and SP. Derived from 42_control_flag.md
R334, 60_exceptions.md R506, 60_exceptions.md R503, 60_exceptions.md R510. -/
def Obligations.InterruptReturnRestores : Prop :=
  ∀ s : State,
    (∃ t, exec .rti s.nmiEntry = .next t ∧
      t.pc = s.pc ∧ t.p = s.p ∧ t.sp = s.sp ∧ t.a = s.a ∧ t.x = s.x ∧ t.y = s.y) ∧
    (∃ t, exec .rti s.irqEntry = .next t ∧
      t.pc = s.pc ∧ t.p = s.p ∧ t.sp = s.sp ∧ t.a = s.a ∧ t.x = s.x ∧ t.y = s.y) ∧
    s.irqEntry =
      { s with
        mem :=
          ((s.mem.write (stackIndex s.sp) (hi s.pc)).write (stackIndex (s.sp - 1)) (lo s.pc)).write
            (stackIndex (s.sp - 2)) (s.p.pushedByte false)
        sp := s.sp - 3, p := { s.p with i := true }
        pc := word16 (s.mem.read 0xFFFF) (s.mem.read 0xFFFE), cycles := s.cycles + s.params.irqCycles }

/-- A DMA transfer fills OAM by 256 bus reads of its page, from the OAM pointer on with wraparound, device registers
with their effects. Derived from 60_exceptions.md R507, 60_exceptions.md R508, 10_state.md R48, 92_eei_decisions.md
D9, 20_memory.md R95, 60_exceptions.md R543, 60_exceptions.md R550. -/
def Obligations.DmaCopiesOnePage : Prop :=
  ∀ s : State,
    let src := fun i : Nat => s.dmaSrc + BitVec.ofNat 16 i
    let slot := fun i : Nat => (s.ppu.oamAddr.toNat + i) % 256
    let t := s.dmaTransfer
    let copied := fun i : Nat => t.ppu.oam.read (slot i)
    (∃ u : Nat → State, u 0 = { s with dmaPending := false } ∧
      (∀ i < 256, let r := (u i).memRead (src i)
        u (i + 1) = { r.2 with ppu := { r.2.ppu with oam := (u i).ppu.oam.write (slot i) r.1 } } ∧ copied i = r.1) ∧
      t = { u 256 with cycles := s.cycles + s.params.dmaCycles }) ∧
    t.ppu.oamAddr = s.ppu.oamAddr ∧
    ((∀ i < 256, fetchesStorage (src i) = true) →
      t =
        { s with
          dmaPending := false, cycles := s.cycles + s.params.dmaCycles
          ppu := { s.ppu with oam := t.ppu.oam } } ∧
      ∀ i < 256, copied i = s.mem.read (redirect (src i)).toNat) ∧
    (∀ page : Nat, 0x20 ≤ page → page < 0x40 → s.dmaSrc = BitVec.ofNat 16 (page * 0x100) →
      t =
        { s with
          dmaPending := false, cycles := s.cycles + s.params.dmaCycles
          ppu := { s.ppu with
            oam := t.ppu.oam, vblank := false, w := false, readBuffer := t.ppu.readBuffer
            v := s.ppu.v + if s.ppu.ctrl.getLsbD 2 then 0x400 else 0x20 } } ∧
      copied 2 = (s.ppu.regRead 2).1 ∧ copied 7 = (s.ppu.regRead 7).1 ∧
      ∀ i < 256,
        (i % 8 ≠ 2 → i % 8 ≠ 7 → copied i = s.ppu.ioLatch) ∧
        (i % 8 = 2 → i ≠ 2 → copied i = (Ppu.regRead { s.ppu with vblank := false } 2).1)) ∧
    (s.dmaSrc = 0x4000 →
      t =
        { s with
          dmaPending := false, cycles := s.cycles + s.params.dmaCycles, controllerLog := t.controllerLog
          ppu := { s.ppu with oam := t.ppu.oam } } ∧
      copied 0x16 = Config.readController 0 s.controllerLog ∧
      (∃ history, copied 0x17 = Config.readController 1 history) ∧
      ∀ i < 256, i ≠ 0x16 → i ≠ 0x17 → copied i = s.mem.read (0x4000 + i))

/-- JSR then RTS returns to the byte after the JSR and restores SP, for every address and SP. Derived from
42_control_flag.md R333, 10_state.md R42, 95_test_vectors.md S4. -/
def Obligations.JsrThenRtsReturns : Prop :=
  (∀ (s : State) (w : Addr), ∃ t u, exec (.jsr w) s = .next t ∧ t.pc = w ∧ exec .rts t = .next u ∧
      u.pc = s.pc ∧ u.sp = s.sp ∧ u.a = s.a ∧ u.x = s.x ∧ u.y = s.y ∧ u.p = s.p) ∧
    ∀ (s : State) (w : Addr), (s.push16 w).pull16.1 = w ∧ (s.push16 w).pull16.2.sp = s.sp

/-- The pushed status byte has its flags in place and bits 5:4 by kind; pulling it gives the flags back. Formalises R37,
R38. -/
def Obligations.StatusByteRoundTrip : Prop :=
  (∀ (p : Flags) (b4 : Bool), (List.range 8).map (p.pushedByte b4).getLsbD = [p.c, p.z, p.i, p.d, b4, true, p.v, p.n]) ∧
    (∀ b : Byte, Flags.ofPulledByte b =
      { c := b.getLsbD 0, z := b.getLsbD 1, i := b.getLsbD 2, d := b.getLsbD 3, v := b.getLsbD 6, n := b.getLsbD 7 }) ∧
    ∀ s : State, ∃ t u, exec .php s = .next t ∧ exec .plp t = .next u ∧ u.p = s.p ∧ u.sp = s.sp ∧
      t.mem.read (stackIndex s.sp) = s.p.pushedByte true ∧
      u.p = Flags.ofPulledByte (t.mem.read (stackIndex s.sp)) ∧
      (∃ r, exec .rti s = .next r ∧ r.p = Flags.ofPulledByte (s.mem.read (stackIndex (s.sp + 1)))) ∧
      (∃ b, exec .brk s = .next b ∧ b.mem.read (stackIndex (s.sp - 2)) = s.p.pushedByte true) ∧
      s.nmiEntry.mem.read (stackIndex (s.sp - 2)) = s.p.pushedByte false ∧
      s.irqEntry.mem.read (stackIndex (s.sp - 2)) = s.p.pushedByte false

/-- SBC with carry c then ADC of the same value with carry 1 - c restores A; with the same carry it does not. Formalises
R283. -/
def Obligations.SubtractThenAddRestores : Prop :=
  ∀ (s : State) (v : Byte), ∃ t, exec (.sbcImm v) s = .next t ∧
    (∃ u, exec (.adcImm v) { t with p := { t.p with c := !s.p.c } } = .next u ∧ u.a = s.a) ∧
    (∃ u, exec (.adcImm v) { t with p := { t.p with c := s.p.c } } = .next u ∧
      u.a = s.a - 1 + (if s.p.c then 2 else 0) ∧ u.a ≠ s.a)

/-- BRK pushes PC + 1 and the status with bits 5:4 = 11, sets I, vectors through $FFFE and stops. Formalises R350. -/
def Obligations.BrkTakesTheTrapAndStops : Prop :=
  ∀ s : State, Instr.brk.form = (0x00#8, Mode.implied) ∧
    exec .brk s = .next
      { s with
        mem :=
          ((s.mem.write (stackIndex s.sp) (hi (s.pc + 1))).write (stackIndex (s.sp - 1)) (lo (s.pc + 1))).write
            (stackIndex (s.sp - 2))
            (BitVec.ofBool s.p.n ++ BitVec.ofBool s.p.v ++ 0b11#2 ++ BitVec.ofBool s.p.d ++ BitVec.ofBool s.p.i ++
              BitVec.ofBool s.p.z ++ BitVec.ofBool s.p.c)
        sp := s.sp - 3, p := { s.p with i := true }
        pc := word16 (s.mem.read 0xFFFF) (s.mem.read 0xFFFE), stop := true, cycles := s.cycles + 7 } ∧
    ∀ t, exec .brk s = .next t → t.cpuDue = false ∧ t.ppuDue = false

/-- LDA, LDX and LDY load the operand, read once, and set N and Z from it. Formalises R201, R202, R203. -/
def Obligations.LoadsSetRegisterAndNZ : Prop :=
  ∀ (i : Instr) (s : State),
    let r := resolve i.operand s
    let m := r.2.operand r.1.desc
    (i.row.mnemonic = "LDA" →
      i.form ∈
        [(0xA9#8, Mode.immediate), (0xA5#8, Mode.zeroPage), (0xB5#8, Mode.zeroPageX),
         (0xAD#8, Mode.absolute), (0xBD#8, Mode.absoluteX), (0xB9#8, Mode.absoluteY),
         (0xA1#8, Mode.indexedIndirect), (0xB1#8, Mode.indirectIndexed)] ∧
      exec i s = .next
        { m.2 with
          a := m.1, p := { s.p with z := m.1 == 0, n := (m.1).getLsbD 7 }
          cycles := s.cycles + i.costWith [0xBD, 0xB9, 0xB1] r.1.cross }) ∧
    (i.row.mnemonic = "LDX" →
      i.form ∈
        [(0xA2#8, Mode.immediate), (0xA6#8, Mode.zeroPage), (0xB6#8, Mode.zeroPageY),
         (0xAE#8, Mode.absolute), (0xBE#8, Mode.absoluteY)] ∧
      exec i s = .next
        { m.2 with
          x := m.1, p := { s.p with z := m.1 == 0, n := (m.1).getLsbD 7 }
          cycles := s.cycles + i.costWith [0xBE] r.1.cross }) ∧
    (i.row.mnemonic = "LDY" →
      i.form ∈
        [(0xA0#8, Mode.immediate), (0xA4#8, Mode.zeroPage), (0xB4#8, Mode.zeroPageX),
         (0xAC#8, Mode.absolute), (0xBC#8, Mode.absoluteX)] ∧
      exec i s = .next
        { m.2 with
          y := m.1, p := { s.p with z := m.1 == 0, n := (m.1).getLsbD 7 }
          cycles := s.cycles + i.costWith [0xBC] r.1.cross })

/-- STA, STX and STY write the register once to the resolved address and touch no flag. Formalises R204, R205, R206. -/
def Obligations.StoresWriteOnce : Prop :=
  ∀ (i : Instr) (s : State),
    let r := resolve i.operand s
    (i.row.mnemonic = "STA" →
      i.form ∈
        [(0x85#8, Mode.zeroPage), (0x95#8, Mode.zeroPageX), (0x8D#8, Mode.absolute),
         (0x9D#8, Mode.absoluteX), (0x99#8, Mode.absoluteY), (0x81#8, Mode.indexedIndirect),
         (0x91#8, Mode.indirectIndexed)] ∧
      ∃ a, r.1.desc = .addr a ∧
        exec i s = .next { r.2.memWrite a s.a with cycles := s.cycles + i.row.cycles }) ∧
    (i.row.mnemonic = "STX" →
      i.form ∈
        [(0x86#8, Mode.zeroPage), (0x96#8, Mode.zeroPageY), (0x8E#8, Mode.absolute)] ∧
      ∃ a, r.1.desc = .addr a ∧
        exec i s = .next { r.2.memWrite a s.x with cycles := s.cycles + i.row.cycles }) ∧
    (i.row.mnemonic = "STY" →
      i.form ∈
        [(0x84#8, Mode.zeroPage), (0x94#8, Mode.zeroPageX), (0x8C#8, Mode.absolute)] ∧
      ∃ a, r.1.desc = .addr a ∧
        exec i s = .next { r.2.memWrite a s.y with cycles := s.cycles + i.row.cycles })

/-- TAX, TAY, TXA, TYA, TSX, TXS, INX, INY, DEX, DEY: the register result, N and Z, nothing else. Formalises R207, R208,
R209, R210, R211, R212, R273, R274, R275, R276. -/
def Obligations.TransfersAndRegisterSteps : Prop :=
  ∀ s : State,
    (Instr.tax.form = (0xAA#8, Mode.implied) ∧
      exec .tax s = .next { s with x := s.a, p := { s.p with z := s.a == 0, n := (s.a).getLsbD 7 }, cycles := s.cycles + 2 }) ∧
    (Instr.tay.form = (0xA8#8, Mode.implied) ∧
      exec .tay s = .next { s with y := s.a, p := { s.p with z := s.a == 0, n := (s.a).getLsbD 7 }, cycles := s.cycles + 2 }) ∧
    (Instr.txa.form = (0x8A#8, Mode.implied) ∧
      exec .txa s = .next { s with a := s.x, p := { s.p with z := s.x == 0, n := (s.x).getLsbD 7 }, cycles := s.cycles + 2 }) ∧
    (Instr.tya.form = (0x98#8, Mode.implied) ∧
      exec .tya s = .next { s with a := s.y, p := { s.p with z := s.y == 0, n := (s.y).getLsbD 7 }, cycles := s.cycles + 2 }) ∧
    (Instr.tsx.form = (0xBA#8, Mode.implied) ∧
      exec .tsx s = .next { s with x := s.sp, p := { s.p with z := s.sp == 0, n := (s.sp).getLsbD 7 }, cycles := s.cycles + 2 }) ∧
    (Instr.txs.form = (0x9A#8, Mode.implied) ∧
      exec .txs s = .next { s with sp := s.x, cycles := s.cycles + 2 }) ∧
    (Instr.inx.form = (0xE8#8, Mode.implied) ∧
      exec .inx s = .next { s with x := s.x + 1, p := { s.p with z := (s.x + 1) == 0, n := (s.x + 1).getLsbD 7 }, cycles := s.cycles + 2 }) ∧
    (Instr.iny.form = (0xC8#8, Mode.implied) ∧
      exec .iny s = .next { s with y := s.y + 1, p := { s.p with z := s.y + 1 == 0, n := (s.y + 1).getLsbD 7 }, cycles := s.cycles + 2 }) ∧
    (Instr.dex.form = (0xCA#8, Mode.implied) ∧
      exec .dex s = .next { s with x := s.x - 1, p := { s.p with z := s.x - 1 == 0, n := (s.x - 1).getLsbD 7 }, cycles := s.cycles + 2 }) ∧
    (Instr.dey.form = (0x88#8, Mode.implied) ∧
      exec .dey s = .next { s with y := s.y - 1, p := { s.p with z := s.y - 1 == 0, n := (s.y - 1).getLsbD 7 }, cycles := s.cycles + 2 })

/-- PHA and PHP write the cell at SP and then decrement SP; PLA and PLP increment SP and then read it. Formalises R213,
R214, R215, R216, R40, R41. -/
def Obligations.StackInstructions : Prop :=
  ∀ s : State,
    let b := s.mem.read (stackIndex (s.sp + 1))
    let pushed := BitVec.ofBool s.p.n ++ BitVec.ofBool s.p.v ++ 0b11#2 ++ BitVec.ofBool s.p.d ++ BitVec.ofBool s.p.i ++
      BitVec.ofBool s.p.z ++ BitVec.ofBool s.p.c
    (Instr.pha.form = (0x48#8, Mode.implied) ∧
      exec .pha s = .next { s with mem := s.mem.write (stackIndex s.sp) s.a, sp := s.sp - 1, cycles := s.cycles + 3 }) ∧
    (Instr.php.form = (0x08#8, Mode.implied) ∧
      exec .php s = .next { s with mem := s.mem.write (stackIndex s.sp) pushed, sp := s.sp - 1, cycles := s.cycles + 3 }) ∧
    (Instr.pla.form = (0x68#8, Mode.implied) ∧
      exec .pla s = .next { s with a := b, p := { s.p with z := b == 0, n := (b).getLsbD 7 }, sp := s.sp + 1, cycles := s.cycles + 4 }) ∧
    (Instr.plp.form = (0x28#8, Mode.implied) ∧
      exec .plp s = .next { s with 
          p := { c := (b).getLsbD 0, z := (b).getLsbD 1, i := (b).getLsbD 2, d := (b).getLsbD 3, v := (b).getLsbD 6, n := (b).getLsbD 7 }
          sp := s.sp + 1, cycles := s.cycles + 4 })

/-- ADC, SBC and USBC: the 8-bit sum with carry-in, unsigned carry, signed overflow, N and Z. Formalises R260, R262,
R263, R413. -/
def Obligations.AddAndSubtract : Prop :=
  ∀ (i : Instr) (s : State),
    let r := resolve i.operand s
    let m := r.2.operand r.1.desc
    let sum := fun (q : Byte) (penalized : List Byte) =>
      let wide := s.a.toNat + q.toNat + s.p.c.toNat
      let signed := s.a.toInt + q.toInt + s.p.c.toNat
      ({ m.2 with
          a := BitVec.ofNat 8 wide
          p := { s.p with
            c := decide (255 < wide), v := decide (signed < -128 ∨ 127 < signed)
            z := decide (wide % 256 = 0), n := decide (128 ≤ wide % 256) }
          cycles := s.cycles + i.costWith penalized r.1.cross } : State)
    (i.row.mnemonic = "ADC" →
      i.form ∈
        [(0x69#8, Mode.immediate), (0x65#8, Mode.zeroPage), (0x75#8, Mode.zeroPageX),
         (0x6D#8, Mode.absolute), (0x7D#8, Mode.absoluteX), (0x79#8, Mode.absoluteY),
         (0x61#8, Mode.indexedIndirect), (0x71#8, Mode.indirectIndexed)] ∧
      exec i s = .next (sum m.1 [0x7D, 0x79, 0x71])) ∧
    (i.row.mnemonic = "SBC" →
      i.form ∈
        [(0xE9#8, Mode.immediate), (0xE5#8, Mode.zeroPage), (0xF5#8, Mode.zeroPageX),
         (0xED#8, Mode.absolute), (0xFD#8, Mode.absoluteX), (0xF9#8, Mode.absoluteY),
         (0xE1#8, Mode.indexedIndirect), (0xF1#8, Mode.indirectIndexed)] ∧
      exec i s = .next (sum (~~~m.1) [0xFD, 0xF9, 0xF1])) ∧
    (i.row.mnemonic = "USBC" →
      i.form ∈
        [(0xEB#8, Mode.immediate)] ∧
      exec i s = .next (sum (~~~m.1) []))

/-- AND, ORA and EOR combine A with the operand and set N and Z. Formalises R264, R265, R266. -/
def Obligations.LogicWithAccumulator : Prop :=
  ∀ (i : Instr) (s : State),
    let r := resolve i.operand s
    let m := r.2.operand r.1.desc
    (i.row.mnemonic = "AND" →
      i.form ∈
        [(0x29#8, Mode.immediate), (0x25#8, Mode.zeroPage), (0x35#8, Mode.zeroPageX),
         (0x2D#8, Mode.absolute), (0x3D#8, Mode.absoluteX), (0x39#8, Mode.absoluteY),
         (0x21#8, Mode.indexedIndirect), (0x31#8, Mode.indirectIndexed)] ∧
      exec i s = .next
        { m.2 with
          a := s.a &&& m.1, p := { s.p with z := (s.a &&& m.1) == 0, n := ((s.a &&& m.1)).getLsbD 7 }
          cycles := s.cycles + i.costWith [0x3D, 0x39, 0x31] r.1.cross }) ∧
    (i.row.mnemonic = "ORA" →
      i.form ∈
        [(0x09#8, Mode.immediate), (0x05#8, Mode.zeroPage), (0x15#8, Mode.zeroPageX),
         (0x0D#8, Mode.absolute), (0x1D#8, Mode.absoluteX), (0x19#8, Mode.absoluteY),
         (0x01#8, Mode.indexedIndirect), (0x11#8, Mode.indirectIndexed)] ∧
      exec i s = .next
        { m.2 with
          a := s.a ||| m.1, p := { s.p with z := (s.a ||| m.1) == 0, n := ((s.a ||| m.1)).getLsbD 7 }
          cycles := s.cycles + i.costWith [0x1D, 0x19, 0x11] r.1.cross }) ∧
    (i.row.mnemonic = "EOR" →
      i.form ∈
        [(0x49#8, Mode.immediate), (0x45#8, Mode.zeroPage), (0x55#8, Mode.zeroPageX),
         (0x4D#8, Mode.absolute), (0x5D#8, Mode.absoluteX), (0x59#8, Mode.absoluteY),
         (0x41#8, Mode.indexedIndirect), (0x51#8, Mode.indirectIndexed)] ∧
      exec i s = .next
        { m.2 with
          a := s.a ^^^ m.1, p := { s.p with z := (s.a ^^^ m.1) == 0, n := ((s.a ^^^ m.1)).getLsbD 7 }
          cycles := s.cycles + i.costWith [0x5D, 0x59, 0x51] r.1.cross })

/-- CMP, CPX, CPY set C, Z, N from register minus operand; BIT sets Z, N, V; no register is written. Formalises R261,
R267, R268, R269, R270. -/
def Obligations.ComparesAndBitTest : Prop :=
  ∀ (i : Instr) (s : State),
    let r := resolve i.operand s
    let m := r.2.operand r.1.desc
    (i.row.mnemonic = "CMP" →
      i.form ∈
        [(0xC9#8, Mode.immediate), (0xC5#8, Mode.zeroPage), (0xD5#8, Mode.zeroPageX),
         (0xCD#8, Mode.absolute), (0xDD#8, Mode.absoluteX), (0xD9#8, Mode.absoluteY),
         (0xC1#8, Mode.indexedIndirect), (0xD1#8, Mode.indirectIndexed)] ∧
      exec i s = .next
        { m.2 with
          p := { s.p with c := decide (m.1.toNat ≤ s.a.toNat), z := decide (s.a = m.1), n := (s.a - m.1).getLsbD 7 }
          cycles := s.cycles + i.costWith [0xDD, 0xD9, 0xD1] r.1.cross }) ∧
    (i.row.mnemonic = "CPX" →
      i.form ∈
        [(0xE0#8, Mode.immediate), (0xE4#8, Mode.zeroPage), (0xEC#8, Mode.absolute)] ∧
      exec i s = .next
        { m.2 with
          p := { s.p with c := decide (m.1.toNat ≤ s.x.toNat), z := decide (s.x = m.1), n := (s.x - m.1).getLsbD 7 }
          cycles := s.cycles + i.costWith [] r.1.cross }) ∧
    (i.row.mnemonic = "CPY" →
      i.form ∈
        [(0xC0#8, Mode.immediate), (0xC4#8, Mode.zeroPage), (0xCC#8, Mode.absolute)] ∧
      exec i s = .next
        { m.2 with
          p := { s.p with c := decide (m.1.toNat ≤ s.y.toNat), z := decide (s.y = m.1), n := (s.y - m.1).getLsbD 7 }
          cycles := s.cycles + i.costWith [] r.1.cross }) ∧
    (i.row.mnemonic = "BIT" →
      i.form ∈
        [(0x24#8, Mode.zeroPage), (0x2C#8, Mode.absolute)] ∧
      exec i s = .next
        { m.2 with
          p := { s.p with z := decide (s.a &&& m.1 = 0), n := m.1.getLsbD 7, v := m.1.getLsbD 6 }
          cycles := s.cycles + i.costWith [] r.1.cross })

/-- INC and DEC read once, write back the value plus or minus 1 once, and set N and Z. Formalises R271, R272. -/
def Obligations.IncrementAndDecrementMemory : Prop :=
  ∀ (i : Instr) (s : State),
    let r := resolve i.operand s
    (i.row.mnemonic = "INC" →
      i.form ∈
        [(0xE6#8, Mode.zeroPage), (0xF6#8, Mode.zeroPageX), (0xEE#8, Mode.absolute),
         (0xFE#8, Mode.absoluteX)] ∧
      ∃ a, r.1.desc = .addr a ∧
        let v := (r.2.memRead a).1
        exec i s = .next
          { (r.2.memRead a).2.memWrite a (v + 1) with
            p := { s.p with z := (v + 1) == 0, n := ((v + 1)).getLsbD 7 }
            cycles := s.cycles + i.row.cycles }) ∧
    (i.row.mnemonic = "DEC" →
      i.form ∈
        [(0xC6#8, Mode.zeroPage), (0xD6#8, Mode.zeroPageX), (0xCE#8, Mode.absolute),
         (0xDE#8, Mode.absoluteX)] ∧
      ∃ a, r.1.desc = .addr a ∧
        let v := (r.2.memRead a).1
        exec i s = .next
          { (r.2.memRead a).2.memWrite a (v - 1) with
            p := { s.p with z := (v - 1) == 0, n := ((v - 1)).getLsbD 7 }
            cycles := s.cycles + i.row.cycles })

/-- ASL, LSR, ROL, ROR: result, C from the bit shifted out, N and Z; A or one read and one write of memory. Formalises
R277, R278, R279, R280. -/
def Obligations.ShiftsAndRotates : Prop :=
  ∀ (i : Instr) (s : State),
    let r := resolve i.operand s
    (i.row.mnemonic = "ASL" →
      i.form ∈
        [(0x0A#8, Mode.accumulator), (0x06#8, Mode.zeroPage), (0x16#8, Mode.zeroPageX),
         (0x0E#8, Mode.absolute), (0x1E#8, Mode.absoluteX)] ∧
      let q := fun v : Byte => (v <<< 1)
      let flags := fun v : Byte => ({ s.p with c := v.getLsbD 7, z := q v == 0, n := (q v).getLsbD 7 } : Flags)
      ((i.operand.mode = .accumulator →
          exec i s = .next { s with a := q s.a, p := flags s.a, cycles := s.cycles + i.row.cycles }) ∧
        (i.operand.mode ≠ .accumulator → ∃ a, r.1.desc = .addr a ∧
          let v := (r.2.memRead a).1
          exec i s = .next
            { (r.2.memRead a).2.memWrite a (q v) with p := flags v, cycles := s.cycles + i.row.cycles }))) ∧
    (i.row.mnemonic = "LSR" →
      i.form ∈
        [(0x4A#8, Mode.accumulator), (0x46#8, Mode.zeroPage), (0x56#8, Mode.zeroPageX),
         (0x4E#8, Mode.absolute), (0x5E#8, Mode.absoluteX)] ∧
      let q := fun v : Byte => (v >>> 1)
      let flags := fun v : Byte => ({ s.p with c := v.getLsbD 0, z := q v == 0, n := (q v).getLsbD 7 } : Flags)
      ((i.operand.mode = .accumulator →
          exec i s = .next { s with a := q s.a, p := flags s.a, cycles := s.cycles + i.row.cycles }) ∧
        (i.operand.mode ≠ .accumulator → ∃ a, r.1.desc = .addr a ∧
          let v := (r.2.memRead a).1
          exec i s = .next
            { (r.2.memRead a).2.memWrite a (q v) with p := flags v, cycles := s.cycles + i.row.cycles }))) ∧
    (i.row.mnemonic = "ROL" →
      i.form ∈
        [(0x2A#8, Mode.accumulator), (0x26#8, Mode.zeroPage), (0x36#8, Mode.zeroPageX),
         (0x2E#8, Mode.absolute), (0x3E#8, Mode.absoluteX)] ∧
      let q := fun v : Byte => ((v <<< 1) ||| (if s.p.c then 1 else 0))
      let flags := fun v : Byte => ({ s.p with c := v.getLsbD 7, z := q v == 0, n := (q v).getLsbD 7 } : Flags)
      ((i.operand.mode = .accumulator →
          exec i s = .next { s with a := q s.a, p := flags s.a, cycles := s.cycles + i.row.cycles }) ∧
        (i.operand.mode ≠ .accumulator → ∃ a, r.1.desc = .addr a ∧
          let v := (r.2.memRead a).1
          exec i s = .next
            { (r.2.memRead a).2.memWrite a (q v) with p := flags v, cycles := s.cycles + i.row.cycles }))) ∧
    (i.row.mnemonic = "ROR" →
      i.form ∈
        [(0x6A#8, Mode.accumulator), (0x66#8, Mode.zeroPage), (0x76#8, Mode.zeroPageX),
         (0x6E#8, Mode.absolute), (0x7E#8, Mode.absoluteX)] ∧
      let q := fun v : Byte => ((v >>> 1) ||| (if s.p.c then 0x80 else 0))
      let flags := fun v : Byte => ({ s.p with c := v.getLsbD 0, z := q v == 0, n := (q v).getLsbD 7 } : Flags)
      ((i.operand.mode = .accumulator →
          exec i s = .next { s with a := q s.a, p := flags s.a, cycles := s.cycles + i.row.cycles }) ∧
        (i.operand.mode ≠ .accumulator → ∃ a, r.1.desc = .addr a ∧
          let v := (r.2.memRead a).1
          exec i s = .next
            { (r.2.memRead a).2.memWrite a (q v) with p := flags v, cycles := s.cycles + i.row.cycles })))

/-- JMP, JSR, RTS, RTI: where PC goes and what the stack holds. Formalises R330, R331, R332, R333, R334. -/
def Obligations.JumpsCallsAndReturns : Prop :=
  ∀ (s : State) (t : Addr),
    (Instr.jmpAbs t).form = (0x4C#8, Mode.absolute) ∧ (Instr.jmpInd t).form = (0x6C#8, Mode.indirect) ∧
    (Instr.jsr t).form = (0x20#8, Mode.absolute) ∧ Instr.rts.form = (0x60#8, Mode.implied) ∧
    Instr.rti.form = (0x40#8, Mode.implied) ∧
    exec (.jmpAbs t) s = .next { s with pc := t, cycles := s.cycles + 3 } ∧
    (let l := s.memRead t
      let h := l.2.memRead (word16 (hi t) (lo t + 1));
      exec (.jmpInd t) s = .next { h.2 with pc := word16 h.1 l.1, cycles := s.cycles + 5 }) ∧
    exec (.jsr t) s = .next
      { s with
        mem := (s.mem.write (stackIndex s.sp) (hi (s.pc - 1))).write (stackIndex (s.sp - 1)) (lo (s.pc - 1))
        sp := s.sp - 2, pc := t, cycles := s.cycles + 6 } ∧
    exec .rts s = .next
      { s with
        pc := word16 (s.mem.read (stackIndex (s.sp + 2))) (s.mem.read (stackIndex (s.sp + 1))) + 1
        sp := s.sp + 2, cycles := s.cycles + 6 } ∧
    (let b := s.mem.read (stackIndex (s.sp + 1));
      exec .rti s = .next
        { s with
          p := { c := (b).getLsbD 0, z := (b).getLsbD 1, i := (b).getLsbD 2, d := (b).getLsbD 3, v := (b).getLsbD 6, n := (b).getLsbD 7 }
          pc := word16 (s.mem.read (stackIndex (s.sp + 3))) (s.mem.read (stackIndex (s.sp + 2)))
          sp := s.sp + 3, cycles := s.cycles + 6 })

/-- The eight branches: taken exactly on their flag, to PC plus the signed displacement, with branchExtra. Formalises
R335, R336, R337, R338, R339, R340, R341, R342, R343, R344. -/
def Obligations.Branches : Prop :=
  ∀ (s : State) (d : Byte),
    let target := BitVec.ofInt 16 (s.pc.toNat + if d.toNat < 128 then (d.toNat : Int) else d.toNat - 256)
    let extra := if s.params.branchPenalty = .hardware then
      if target.extractLsb' 8 8 = s.pc.extractLsb' 8 8 then 1 else 2 else 0
    let go := fun taken : Bool =>
      if taken then ({ s with pc := target, cycles := s.cycles + 2 + extra } : State)
      else { s with cycles := s.cycles + 2 }
    ((Instr.bpl d).form = (0x10#8, Mode.relative) ∧ exec (.bpl d) s = .next (go (!s.p.n))) ∧
    ((Instr.bmi d).form = (0x30#8, Mode.relative) ∧ exec (.bmi d) s = .next (go (s.p.n))) ∧
    ((Instr.bvc d).form = (0x50#8, Mode.relative) ∧ exec (.bvc d) s = .next (go (!s.p.v))) ∧
    ((Instr.bvs d).form = (0x70#8, Mode.relative) ∧ exec (.bvs d) s = .next (go (s.p.v))) ∧
    ((Instr.bcc d).form = (0x90#8, Mode.relative) ∧ exec (.bcc d) s = .next (go (!s.p.c))) ∧
    ((Instr.bcs d).form = (0xB0#8, Mode.relative) ∧ exec (.bcs d) s = .next (go (s.p.c))) ∧
    ((Instr.bne d).form = (0xD0#8, Mode.relative) ∧ exec (.bne d) s = .next (go (!s.p.z))) ∧
    ((Instr.beq d).form = (0xF0#8, Mode.relative) ∧ exec (.beq d) s = .next (go (s.p.z)))

/-- The flag operations change one flag; every NOP changes nothing but cycles and reads no operand. Formalises R351,
R352, R353, R354, R355, R356, R357, R358, R414, R415, R416. -/
def Obligations.FlagOperationsAndNops : Prop :=
  (∀ s : State,
      (Instr.clc.form = (0x18#8, Mode.implied) ∧
        exec .clc s = .next { s with p := { s.p with c := false }, cycles := s.cycles + 2 }) ∧
      (Instr.sec.form = (0x38#8, Mode.implied) ∧
        exec .sec s = .next { s with p := { s.p with c := true }, cycles := s.cycles + 2 }) ∧
      (Instr.cli.form = (0x58#8, Mode.implied) ∧
        exec .cli s = .next { s with p := { s.p with i := false }, cycles := s.cycles + 2 }) ∧
      (Instr.sei.form = (0x78#8, Mode.implied) ∧
        exec .sei s = .next { s with p := { s.p with i := true }, cycles := s.cycles + 2 }) ∧
      (Instr.cld.form = (0xD8#8, Mode.implied) ∧
        exec .cld s = .next { s with p := { s.p with d := false }, cycles := s.cycles + 2 }) ∧
      (Instr.sed.form = (0xF8#8, Mode.implied) ∧
        exec .sed s = .next { s with p := { s.p with d := true }, cycles := s.cycles + 2 }) ∧
      (Instr.clv.form = (0xB8#8, Mode.implied) ∧
        exec .clv s = .next { s with p := { s.p with v := false }, cycles := s.cycles + 2 })) ∧
    ∀ (i : Instr) (s : State), i.row.mnemonic = "NOP" →
      i.form ∈
        [(0xEA#8, Mode.implied),
         (0x1A#8, Mode.implied), (0x3A#8, Mode.implied), (0x5A#8, Mode.implied), (0x7A#8, Mode.implied),
         (0xDA#8, Mode.implied), (0xFA#8, Mode.implied), (0x80#8, Mode.immediate), (0x82#8, Mode.immediate),
         (0x89#8, Mode.immediate), (0xC2#8, Mode.immediate), (0xE2#8, Mode.immediate),
         (0x04#8, Mode.zeroPage), (0x44#8, Mode.zeroPage), (0x64#8, Mode.zeroPage), (0x14#8, Mode.zeroPageX),
         (0x34#8, Mode.zeroPageX), (0x54#8, Mode.zeroPageX), (0x74#8, Mode.zeroPageX), (0xD4#8, Mode.zeroPageX),
         (0xF4#8, Mode.zeroPageX), (0x0C#8, Mode.absolute), (0x1C#8, Mode.absoluteX), (0x3C#8, Mode.absoluteX),
         (0x5C#8, Mode.absoluteX), (0x7C#8, Mode.absoluteX), (0xDC#8, Mode.absoluteX), (0xFC#8, Mode.absoluteX)] ∧
      exec i s = .next
        { s with
          cycles := s.cycles +
            i.costWith [0x1C, 0x3C, 0x5C, 0x7C, 0xDC, 0xFC] (resolve i.operand s).1.cross }

/-- SLO, RLA, SRE, RRA, DCP, ISC: one read, one write of the modified value, then the second operation on A. Formalises
R401, R402, R403, R404, R407, R408. -/
def Obligations.IllegalReadModifyWrite : Prop :=
  ∀ (i : Instr) (s : State),
    let r := resolve i.operand s
    (i.row.mnemonic = "SLO" →
      i.form ∈
        [(0x07#8, Mode.zeroPage), (0x17#8, Mode.zeroPageX), (0x0F#8, Mode.absolute),
         (0x1F#8, Mode.absoluteX), (0x1B#8, Mode.absoluteY), (0x03#8, Mode.indexedIndirect),
         (0x13#8, Mode.indirectIndexed)] ∧
      ∃ a, r.1.desc = .addr a ∧
        let v := (r.2.memRead a).1
        let q := v <<< 1
        exec i s = .next
          { (r.2.memRead a).2.memWrite a q with
            a := s.a ||| q
            p := { s.p with c := v.getLsbD 7, z := s.a ||| q == 0, n := (s.a ||| q).getLsbD 7 }
            cycles := s.cycles + i.row.cycles }) ∧
    (i.row.mnemonic = "RLA" →
      i.form ∈
        [(0x27#8, Mode.zeroPage), (0x37#8, Mode.zeroPageX), (0x2F#8, Mode.absolute),
         (0x3F#8, Mode.absoluteX), (0x3B#8, Mode.absoluteY), (0x23#8, Mode.indexedIndirect),
         (0x33#8, Mode.indirectIndexed)] ∧
      ∃ a, r.1.desc = .addr a ∧
        let v := (r.2.memRead a).1
        let q := (v <<< 1) ||| (if s.p.c then 1 else 0)
        exec i s = .next
          { (r.2.memRead a).2.memWrite a q with
            a := s.a &&& q
            p := { s.p with c := v.getLsbD 7, z := s.a &&& q == 0, n := (s.a &&& q).getLsbD 7 }
            cycles := s.cycles + i.row.cycles }) ∧
    (i.row.mnemonic = "SRE" →
      i.form ∈
        [(0x47#8, Mode.zeroPage), (0x57#8, Mode.zeroPageX), (0x4F#8, Mode.absolute),
         (0x5F#8, Mode.absoluteX), (0x5B#8, Mode.absoluteY), (0x43#8, Mode.indexedIndirect),
         (0x53#8, Mode.indirectIndexed)] ∧
      ∃ a, r.1.desc = .addr a ∧
        let v := (r.2.memRead a).1
        let q := v >>> 1
        exec i s = .next
          { (r.2.memRead a).2.memWrite a q with
            a := s.a ^^^ q
            p := { s.p with c := v.getLsbD 0, z := s.a ^^^ q == 0, n := (s.a ^^^ q).getLsbD 7 }
            cycles := s.cycles + i.row.cycles }) ∧
    (i.row.mnemonic = "RRA" →
      i.form ∈
        [(0x67#8, Mode.zeroPage), (0x77#8, Mode.zeroPageX), (0x6F#8, Mode.absolute),
         (0x7F#8, Mode.absoluteX), (0x7B#8, Mode.absoluteY), (0x63#8, Mode.indexedIndirect),
         (0x73#8, Mode.indirectIndexed)] ∧
      ∃ a, r.1.desc = .addr a ∧
        let v := (r.2.memRead a).1
        let q := (v >>> 1) ||| (if s.p.c then 0x80 else 0)
        exec i s = .next
          { (r.2.memRead a).2.memWrite a q with
            a := (addCore s.a q (v.getLsbD 0) s.p).1
            p := (addCore s.a q (v.getLsbD 0) s.p).2
            cycles := s.cycles + i.row.cycles }) ∧
    (i.row.mnemonic = "DCP" →
      i.form ∈
        [(0xC7#8, Mode.zeroPage), (0xD7#8, Mode.zeroPageX), (0xCF#8, Mode.absolute),
         (0xDF#8, Mode.absoluteX), (0xDB#8, Mode.absoluteY), (0xC3#8, Mode.indexedIndirect),
         (0xD3#8, Mode.indirectIndexed)] ∧
      ∃ a, r.1.desc = .addr a ∧
        let q := (r.2.memRead a).1 - 1
        exec i s = .next
          { (r.2.memRead a).2.memWrite a q with
            p := { s.p with c := decide (q.toNat ≤ s.a.toNat), z := decide (s.a = q), n := (s.a - q).getLsbD 7 }
            cycles := s.cycles + i.row.cycles }) ∧
    (i.row.mnemonic = "ISC" →
      i.form ∈
        [(0xE7#8, Mode.zeroPage), (0xF7#8, Mode.zeroPageX), (0xEF#8, Mode.absolute),
         (0xFF#8, Mode.absoluteX), (0xFB#8, Mode.absoluteY), (0xE3#8, Mode.indexedIndirect),
         (0xF3#8, Mode.indirectIndexed)] ∧
      ∃ a, r.1.desc = .addr a ∧
        let v := (r.2.memRead a).1
        let q := v + 1
        exec i s = .next
          { (r.2.memRead a).2.memWrite a q with
            a := (addCore s.a (~~~q) (s.p.c) s.p).1
            p := (addCore s.a (~~~q) (s.p.c) s.p).2
            cycles := s.cycles + i.row.cycles })

/-- SAX stores A and X; LAX loads A and X; LAS loads operand and SP into A, X and SP. Formalises R405, R406, R422. -/
def Obligations.CombinedLoadsAndStores : Prop :=
  ∀ (i : Instr) (s : State),
    let r := resolve i.operand s
    let m := r.2.operand r.1.desc
    (i.row.mnemonic = "SAX" →
      i.form ∈
        [(0x87#8, Mode.zeroPage), (0x97#8, Mode.zeroPageY), (0x8F#8, Mode.absolute),
         (0x83#8, Mode.indexedIndirect)] ∧
      ∃ a, r.1.desc = .addr a ∧
        exec i s = .next { r.2.memWrite a (s.a &&& s.x) with cycles := s.cycles + i.row.cycles }) ∧
    (i.row.mnemonic = "LAX" →
      i.form ∈
        [(0xA7#8, Mode.zeroPage), (0xB7#8, Mode.zeroPageY), (0xAF#8, Mode.absolute),
         (0xBF#8, Mode.absoluteY), (0xA3#8, Mode.indexedIndirect), (0xB3#8, Mode.indirectIndexed)] ∧
      exec i s = .next
        { m.2 with
          a := m.1, x := m.1, p := { s.p with z := m.1 == 0, n := (m.1).getLsbD 7 }
          cycles := s.cycles + i.costWith [0xBF, 0xB3] r.1.cross }) ∧
    (i.row.mnemonic = "LAS" →
      i.form ∈
        [(0xBB#8, Mode.absoluteY)] ∧
      exec i s = .next
        { m.2 with
          a := m.1 &&& s.sp, x := m.1 &&& s.sp, sp := m.1 &&& s.sp
          p := { s.p with z := (m.1 &&& s.sp) == 0, n := ((m.1 &&& s.sp)).getLsbD 7 }
          cycles := s.cycles + i.costWith [0xBB] r.1.cross })

/-- ANC, ALR, ARR, SBX, ANE, LXA: their result, flags and registers, with the magic values open. Formalises R409, R410,
R411, R412, R420, R421. -/
def Obligations.CombinedImmediateOperations : Prop :=
  ∀ (s : State) (k : Byte),
    let t := s.a &&& k
    let rotated := (t >>> 1) ||| (if s.p.c then 0x80 else 0)
    let ane := (s.a ||| s.params.aneMagic) &&& s.x &&& k
    let lxa := (s.a ||| s.params.lxaMagic) &&& k
    ((Instr.ancImm0B k).form = (0x0B#8, Mode.immediate) ∧
      exec (.ancImm0B k) s = .next { s with a := t, p := { s.p with z := t == 0, n := t.getLsbD 7, c := t.getLsbD 7 }, cycles := s.cycles + 2 }) ∧
    ((Instr.ancImm2B k).form = (0x2B#8, Mode.immediate) ∧
      exec (.ancImm2B k) s = .next { s with a := t, p := { s.p with z := t == 0, n := t.getLsbD 7, c := t.getLsbD 7 }, cycles := s.cycles + 2 }) ∧
    ((Instr.alrImm k).form = (0x4B#8, Mode.immediate) ∧
      exec (.alrImm k) s = .next { s with 
          a := t >>> 1
          p := { s.p with c := t.getLsbD 0, z := t >>> 1 == 0, n := false }, cycles := s.cycles + 2 }) ∧
    ((Instr.arrImm k).form = (0x6B#8, Mode.immediate) ∧
      exec (.arrImm k) s = .next { s with 
          a := rotated
          p := { s.p with
            z := rotated == 0, n := rotated.getLsbD 7, c := rotated.getLsbD 6
            v := rotated.getLsbD 6 ^^ rotated.getLsbD 5 }, cycles := s.cycles + 2 }) ∧
    ((Instr.sbxImm k).form = (0xCB#8, Mode.immediate) ∧
      exec (.sbxImm k) s = .next { s with 
          x := (s.a &&& s.x) - k
          p := { s.p with
            c := decide (k.toNat ≤ (s.a &&& s.x).toNat), z := (s.a &&& s.x) - k == 0
            n := ((s.a &&& s.x) - k).getLsbD 7 }, cycles := s.cycles + 2 }) ∧
    ((Instr.aneImm k).form = (0x8B#8, Mode.immediate) ∧
      exec (.aneImm k) s = .next { s with a := ane, p := { s.p with z := ane == 0, n := (ane).getLsbD 7 }, cycles := s.cycles + 2 }) ∧
    ((Instr.lxaImm k).form = (0xAB#8, Mode.immediate) ∧
      exec (.lxaImm k) s = .next { s with a := lxa, x := lxa, p := { s.p with z := lxa == 0, n := (lxa).getLsbD 7 }, cycles := s.cycles + 2 })

/-- SHA, SHX, SHY, TAS store a register and (H + 1) under COMMON, and set refused under REFUSE. Formalises R430, R431,
R432, R433, R434. -/
def Obligations.UnstableStores : Prop :=
  (∀ (i : Instr) (s : State),
    let r := resolve i.operand s
    (i.row.mnemonic = "SHA" →
      i.form ∈
        [(0x9F#8, Mode.absoluteY), (0x93#8, Mode.indirectIndexed)] ∧
      ∃ a, r.1.desc = .addr a ∧
        let val := s.a &&& s.x &&& (hi a + 1 - if r.1.cross then 1 else 0)
        let target := if r.1.cross then word16 val (lo a) else a
        (s.params.unstableStore = .common →
          exec i s = .next { State.memWrite r.2 target val with cycles := s.cycles + i.row.cycles }) ∧
        (s.params.unstableStore = .refuse →
          ∃ t, exec i s = .next t ∧ t = { r.2 with refused := true, cycles := t.cycles })) ∧
    (i.row.mnemonic = "SHX" →
      i.form ∈
        [(0x9E#8, Mode.absoluteY)] ∧
      ∃ a, r.1.desc = .addr a ∧
        let val := s.x &&& (hi a + 1 - if r.1.cross then 1 else 0)
        let target := if r.1.cross then word16 val (lo a) else a
        (s.params.unstableStore = .common →
          exec i s = .next { State.memWrite r.2 target val with cycles := s.cycles + i.row.cycles }) ∧
        (s.params.unstableStore = .refuse →
          ∃ t, exec i s = .next t ∧ t = { r.2 with refused := true, cycles := t.cycles })) ∧
    (i.row.mnemonic = "SHY" →
      i.form ∈
        [(0x9C#8, Mode.absoluteX)] ∧
      ∃ a, r.1.desc = .addr a ∧
        let val := s.y &&& (hi a + 1 - if r.1.cross then 1 else 0)
        let target := if r.1.cross then word16 val (lo a) else a
        (s.params.unstableStore = .common →
          exec i s = .next { State.memWrite r.2 target val with cycles := s.cycles + i.row.cycles }) ∧
        (s.params.unstableStore = .refuse →
          ∃ t, exec i s = .next t ∧ t = { r.2 with refused := true, cycles := t.cycles })) ∧
    (i.row.mnemonic = "TAS" →
      i.form ∈
        [(0x9B#8, Mode.absoluteY)] ∧
      ∃ a, r.1.desc = .addr a ∧
        let val := s.a &&& s.x &&& (hi a + 1 - if r.1.cross then 1 else 0)
        let target := if r.1.cross then word16 val (lo a) else a
        (s.params.unstableStore = .common →
          exec i s = .next { State.memWrite { r.2 with sp := s.a &&& s.x } target val with cycles := s.cycles + i.row.cycles }) ∧
        (s.params.unstableStore = .refuse →
          ∃ t, exec i s = .next t ∧ t = { r.2 with refused := true, cycles := t.cycles }))) ∧
    ∀ s : State, s.refused = true → s.stop = false → s.cycles < s.master →
      step s = .next { s with cycles := s.master }

/-- JAM sets jammed under HALT and is a 2-cycle no-op under NOP; a jammed core only lets time pass. Formalises R440. -/
def Obligations.JamHaltsOrDoesNothing : Prop :=
  (∀ (i : Instr) (s : State), i.row.mnemonic = "JAM" →
      i.form ∈
        [(0x02#8, Mode.implied), (0x12#8, Mode.implied), (0x22#8, Mode.implied),
         (0x32#8, Mode.implied), (0x42#8, Mode.implied), (0x52#8, Mode.implied),
         (0x62#8, Mode.implied), (0x72#8, Mode.implied), (0x92#8, Mode.implied),
         (0xB2#8, Mode.implied), (0xD2#8, Mode.implied), (0xF2#8, Mode.implied)] ∧
      (s.params.jamPolicy = .halt → ∃ t, exec i s = .next t ∧ t = { s with jammed := true, cycles := t.cycles }) ∧
      (s.params.jamPolicy = .nop → exec i s = .next { s with cycles := s.cycles + 2 })) ∧
    ∀ s : State, s.jammed = true →
      (s.stop = false → s.cycles < s.master → step s = .next { s with cycles := s.master }) ∧
      ∀ t, step s = .next t → t.jammed = true

/-- A bus read gives the cell, the PPU register or the controller byte its redirected address names. Formalises R90,
R95. -/
def Obligations.BusReadByAddress : Prop :=
  ∀ (s : State) (a : Addr),
    let r := storageIndex a.toNat
    (redirect a).toNat = r ∧
    (r < 0x2000 → s.memRead a = (s.mem.read r, s)) ∧
    (0x2000 ≤ r → r < 0x4000 →
      s.memRead a = ((s.ppu.regRead (BitVec.ofNat 3 (r - 0x2000))).1,
        { s with ppu := (s.ppu.regRead (BitVec.ofNat 3 (r - 0x2000))).2 })) ∧
    (r = 0x4016 → ∃ history,
      s.memRead a = (Config.readController 0 s.controllerLog, { s with controllerLog := history })) ∧
    (r = 0x4017 → ∃ history,
      s.memRead a = (Config.readController 1 s.controllerLog, { s with controllerLog := history })) ∧
    (0x4000 ≤ r → r ≠ 0x4016 → r ≠ 0x4017 → s.memRead a = (s.mem.read r, s))

/-- A bus write goes to the cell, the PPU register, the DMA register or nowhere, by its redirected address. Formalises
R96, R93, R104. -/
def Obligations.BusWriteByAddress : Prop :=
  ∀ (s : State) (a : Addr) (v : Byte), s.mapperRange.wellFormed = true →
    let r := storageIndex a.toNat
    let inRange := s.mapperRange.first.toNat ≤ r ∧ r ≤ s.mapperRange.last.toNat
    (r < 0x2000 → s.memWrite a v = { s with mem := s.mem.write r v }) ∧
    (0x2000 ≤ r → r < 0x4000 →
      s.memWrite a v = { s with ppu := s.ppu.regWrite (BitVec.ofNat 3 (r - 0x2000)) v }) ∧
    (r = 0x4014 → s.memWrite a v = { s with dmaSrc := BitVec.ofNat 16 (v.toNat * 0x100), dmaPending := true } ∧
      s.memRead a = (s.mem.read 0x4014, s)) ∧
    (r = 0x4016 → ∃ history, s.memWrite a v = { s with controllerLog := history }) ∧
    (inRange → s.memWrite a v = s) ∧
    (0x4000 ≤ r → r ≠ 0x4014 → r ≠ 0x4016 → ¬ inRange → s.memWrite a v = { s with mem := s.mem.write r v })

/-- Only reads of $2002, $2007, $4016 and $4017 change state, and only the state their rules name. Formalises R103. -/
def Obligations.BusReadSideEffects : Prop :=
  ∀ (s : State) (a : Addr),
    (storageIndex a.toNat ∉ [0x2002, 0x2007, 0x4016, 0x4017] → (s.memRead a).2 = s) ∧
    (storageIndex a.toNat = 0x2002 →
      (s.memRead a).2 = { s with ppu := { s.ppu with vblank := false, w := false } }) ∧
    (storageIndex a.toNat = 0x2007 →
      (s.memRead a).2 = { s with
        ppu := { s.ppu with
          readBuffer := (s.memRead a).2.ppu.readBuffer
          v := s.ppu.v + if s.ppu.ctrl.getLsbD 2 then 32 else 1 } }) ∧
    (storageIndex a.toNat ∈ [0x4016, 0x4017] → ∃ history,
      (s.memRead a).2 = { s with controllerLog := history }) ∧
    ∀ v : Byte, storageIndex a.toNat < 0x2000 ∨ 0x4017 ≤ storageIndex a.toNat ∨
        storageIndex a.toNat ∈ [0x4015] ∨ (0x4000 ≤ storageIndex a.toNat ∧ storageIndex a.toNat < 0x4014) →
      s.memWrite a v = { s with mem := (s.memWrite a v).mem } ∧
      ∀ c ≠ storageIndex a.toNat, (s.memWrite a v).mem.read c = s.mem.read c

/-- Each addressing mode's descriptor, page-cross flag and pointer reads. Formalises R161, R162, R163, R164, R165, R166,
R167, R168, R169, R170, R171, R172. -/
def Obligations.AddressModes : Prop :=
  ∀ (s : State) (z k : Byte) (w : Addr),
    let zp := fun n : Nat => BitVec.ofNat 16 (n % 256)
    let cell := fun n : Nat => s.mem.read (n % 256)
    let plus := fun (base : Addr) (index : Byte) =>
      (⟨.addr (BitVec.ofNat 16 (base.toNat + index.toNat)),
        decide ((base.toNat + index.toNat) % 0x10000 / 0x100 ≠ base.toNat / 0x100)⟩ : Resolved)
    let pointer := fun n : Nat => word16 (cell (n + 1)) (cell n)
    let low := s.memRead w
    let high := low.2.memRead (BitVec.ofNat 16 (w.toNat / 0x100 * 0x100 + (w.toNat + 1) % 0x100))
    resolve .implied s = (⟨.imm 0, false⟩, s) ∧
    resolve .accumulator s = (⟨.acc, false⟩, s) ∧
    resolve (.immediate k) s = (⟨.imm k, false⟩, s) ∧
    resolve (.zeroPage z) s = (⟨.addr (zp z.toNat), false⟩, s) ∧
    resolve (.zeroPageX z) s = (⟨.addr (zp (z.toNat + s.x.toNat)), false⟩, s) ∧
    resolve (.zeroPageY z) s = (⟨.addr (zp (z.toNat + s.y.toNat)), false⟩, s) ∧
    resolve (.absolute w) s = (⟨.addr w, false⟩, s) ∧
    resolve (.absoluteX w) s = (plus w s.x, s) ∧
    resolve (.absoluteY w) s = (plus w s.y, s) ∧
    resolve (.indirect w) s = (⟨.addr (word16 high.1 low.1), false⟩, high.2) ∧
    resolve (.indexedIndirect z) s = (⟨.addr (pointer (z.toNat + s.x.toNat)), false⟩, s) ∧
    resolve (.indirectIndexed z) s = (plus (pointer z.toNat) s.y, s) ∧
    resolve (.relative k) s = (⟨.imm k, false⟩, s)

/-- PPU addresses: pattern tables as they are, name tables by mirroring mode, $3000 alias, palette aliases. Formalises
R120. -/
def Obligations.PpuRedirection : Prop :=
  ∀ (m : Mirroring) (a : Addr),
    let b := a.toNat % 0x4000
    let r := (ppuRedirect m a).toNat
    let table := (b / 0x400) % 4
    let physical := match m with | .vertical => table % 2 | .horizontal => table / 2 | .singleLower => 0 | .singleUpper => 1
    (b < 0x2000 → r = b) ∧
    (0x2000 ≤ b → b < 0x3F00 → r = 0x2000 + physical * 0x400 + b % 0x400) ∧
    (0x3F00 ≤ b → r = 0x3F00 + if b % 32 ∈ [0x10, 0x14, 0x18, 0x1C] then b % 32 - 0x10 else b % 32) ∧
    (r < 0x2800 ∨ (0x3F00 ≤ r ∧ r < 0x3F20))

/-- Reads of the PPU registers: status with its clears, OAM data, buffered video data, the latch elsewhere. Formalises
R542, R543, R550. -/
def Obligations.PpuRegisterReads : Prop :=
  ∀ u : Ppu,
    let a := BitVec.ofNat 16 (u.v.toNat % 0x4000)
    let cell := fun p : Addr => u.vram.read (ppuRedirect u.mirroring p).toNat
    let next := BitVec.ofNat 15 (u.v.toNat + if u.ctrl.getLsbD 2 then 32 else 1)
    (u.regRead 2).2 = { u with vblank := false, w := false } ∧
    (List.range 8).map (u.regRead 2).1.getLsbD =
      [u.ioLatch.getLsbD 0, u.ioLatch.getLsbD 1, u.ioLatch.getLsbD 2, u.ioLatch.getLsbD 3, u.ioLatch.getLsbD 4,
        u.spriteOverflow, u.sprite0Hit, u.vblank] ∧
    u.regRead 4 = (u.oam.read u.oamAddr.toNat, u) ∧
    (u.v.toNat % 0x4000 < 0x3F00 →
      u.regRead 7 = (u.readBuffer, { u with readBuffer := cell a, v := next })) ∧
    (0x3F00 ≤ u.v.toNat % 0x4000 →
      u.regRead 7 = (cell a, { u with readBuffer := cell (a - 0x1000), v := next })) ∧
    (∀ n : BitVec 3, n ∈ [0, 1, 3, 5, 6] → u.regRead n = (u.ioLatch, u)) ∧
    (∀ n : BitVec 3, (u.regRead n).2.ioLatch = u.ioLatch) ∧
    ∀ b : Byte, u.regWrite 2 b = { u with ioLatch := b }

/-- Writes of the PPU registers: latch, ctrl, mask, OAM, scroll and address halves, video data. Formalises R544, R545,
R546, R547, R549, R551, R552. -/
def Obligations.PpuRegisterWrites : Prop :=
  ∀ (u : Ppu) (b : Byte),
    let l := { u with ioLatch := b }
    let at' := fun i : Nat => b.getLsbD i
    let bits := fun t : BitVec 15 => (List.range 15).map t.getLsbD
    let old := fun i : Nat => u.t.getLsbD i
    (∃ t, u.regWrite 0 b = { l with ctrl := b, t := t } ∧
      bits t = [old 0, old 1, old 2, old 3, old 4, old 5, old 6, old 7, old 8, old 9, at' 0, at' 1, old 12, old 13,
        old 14]) ∧
    u.regWrite 1 b = { l with mask := b } ∧
    u.regWrite 2 b = l ∧
    u.regWrite 3 b = { l with oamAddr := b } ∧
    u.regWrite 4 b = { l with oam := u.oam.write u.oamAddr.toNat b, oamAddr := u.oamAddr + 1 } ∧
    (u.w = false → ∃ t x, u.regWrite 5 b = { l with t := t, x := x, w := true } ∧
      (List.range 3).map x.getLsbD = [at' 0, at' 1, at' 2] ∧
      bits t = [at' 3, at' 4, at' 5, at' 6, at' 7, old 5, old 6, old 7, old 8, old 9, old 10, old 11, old 12, old 13,
        old 14]) ∧
    (u.w = true → ∃ t, u.regWrite 5 b = { l with t := t, w := false } ∧
      bits t = [old 0, old 1, old 2, old 3, old 4, at' 3, at' 4, at' 5, at' 6, at' 7, old 10, old 11, at' 0, at' 1,
        at' 2]) ∧
    (u.w = false → ∃ t, u.regWrite 6 b = { l with t := t, w := true } ∧
      bits t = [old 0, old 1, old 2, old 3, old 4, old 5, old 6, old 7, at' 0, at' 1, at' 2, at' 3, at' 4, at' 5,
        false]) ∧
    (u.w = true → ∃ t, u.regWrite 6 b = { l with t := t, v := t, w := false } ∧
      bits t = [at' 0, at' 1, at' 2, at' 3, at' 4, at' 5, at' 6, at' 7, old 8, old 9, old 10, old 11, old 12, old 13,
        old 14]) ∧
    u.regWrite 7 b =
      { l with
        vram := u.vram.write (ppuRedirect u.mirroring (BitVec.ofNat 16 (u.v.toNat % 0x4000))).toNat b
        v := BitVec.ofNat 15 (u.v.toNat + if u.ctrl.getLsbD 2 then 32 else 1) } ∧
    (u.regRead 7).2.v = BitVec.ofNat 15 (u.v.toNat + if u.ctrl.getLsbD 2 then 32 else 1) ∧
    u.regRead 4 = (u.oam.read u.oamAddr.toNat, u)

/-- STA $2006 twice and STA $2007 store at the 14-bit address written, as the source's scenario says. Derived from
60_exceptions.md R547, 60_exceptions.md R548, 95_test_vectors.md 1.2. -/
def Obligations.AddressWritePairThenData : Prop :=
  ∀ (s : State) (h l b : Byte), s.ppu.w = false → ∃ t u x,
    exec (.staAbs 0x2006) { s with a := h } = .next t ∧ exec (.staAbs 0x2006) { t with a := l } = .next u ∧
    exec (.staAbs 0x2007) { u with a := b } = .next x ∧
    u.ppu.v.toNat = h.toNat % 64 * 256 + l.toNat ∧ u.ppu.t = u.ppu.v ∧ u.ppu.w = false ∧
    x.ppu.vram.read (ppuRedirect s.ppu.mirroring (BitVec.ofNat 16 u.ppu.v.toNat)).toNat = b ∧
    x.ppu.v = u.ppu.v + (if s.ppu.ctrl.getLsbD 2 then 32 else 1) ∧
    ∀ y : State, (y.memRead 0x2002).2.ppu.w = false

/-- One dot: position, sprite oracle, vblank set and NMI, early clear, sprite clear, address reload. Formalises R563,
R564, R567, R568. -/
def Obligations.DotEffects : Prop :=
  ∀ s : State,
    let u := s.ppu
    let wraps := u.scanline = 261 ∧ (u.dot = 340 ∨ u.dot = 339 ∧ u.frame % 2 = 1)
    let line := if wraps then 0 else if u.dot = 340 then u.scanline + 1 else u.scanline
    let dot := if wraps ∨ u.dot = 340 then 0 else u.dot + 1
    let entered := (line, dot)
    let offset : Nat := s.params.vblankClearOffset
    let clear := if offset = 0 then (261, 0) else (260, 341 - offset)
    s.ppuStep =
      { s with
        nmiPending := s.nmiPending || (decide (entered = (241, 1)) && u.ctrl.getLsbD 7)
        ppu :=
          { u with
            scanline := line, dot := dot, frame := if wraps then u.frame + 1 else u.frame, done := u.done + 1
            vblank := if entered = clear then false else if entered = (241, 1) then true else u.vblank
            sprite0Hit := if entered = (261, 1) then false else u.sprite0Hit || (Config.spriteFlags u.done).1
            spriteOverflow := if entered = (261, 1) then false else u.spriteOverflow || (Config.spriteFlags u.done).2
            v := if entered = (261, 0) ∧ (u.mask.getLsbD 3 = true ∨ u.mask.getLsbD 4 = true) then u.t else u.v } }

/-- From (0,0) an even frame takes 89,342 dots and an odd one 89,341, and frame grows by exactly 1, at the end.
Formalises R566. -/
def Obligations.FrameLength : Prop :=
  ∀ s : State, s.ppu.position = (0, 0) →
    let length := if s.ppu.frame % 2 = 0 then 89342 else 89341
    let after := fun k : Nat => (State.ppuStep^[k] s).ppu
    (after length).position = (0, 0) ∧ (after length).frame = s.ppu.frame + 1 ∧
    (∀ k, 0 < k → k < length → (after k).position ≠ (0, 0) ∧ (after k).frame = s.ppu.frame) ∧
    ∀ w t : State, step w = .next t → t.ppu.frame = w.ppu.frame ∨
      (t.ppu.frame = w.ppu.frame + 1 ∧ w.ppu.scanline = 261 ∧ t.ppu.position = (0, 0))

/-- Within a frame, vblank is set exactly from dot 82,182 to the clear point, and NMI is raised at that dot only.
Derived from 60_exceptions.md R561, 60_exceptions.md R562, 60_exceptions.md R564, 60_exceptions.md R568,
95_test_vectors.md S6. -/
def Obligations.VblankWindow : Prop :=
  ∀ (s : State) (k : Nat), s.ppu.position = (0, 0) → s.ppu.vblank = false → s.nmiPending = false →
    k < (if s.ppu.frame % 2 = 0 then 89342 else 89341) →
    let offset : Nat := s.params.vblankClearOffset
    let t := State.ppuStep^[k] s
    t.ppu.vblank = decide (82182 ≤ k ∧ k < 89001 - offset) ∧
    t.nmiPending = (decide (82182 ≤ k) && s.ppu.ctrl.getLsbD 7) ∧
    ∀ w x : State, step w = .next x →
      (w.ppu.vblank = false → x.ppu.vblank = true → x = w.ppuStep ∧ x.ppu.position = (241, 1)) ∧
      (w.nmiPending = false → x.nmiPending = true → x = w.ppuStep ∧ x.ppu.position = (241, 1))

/-- Power-on gives every piece of state its value of R58, for every MEM_INIT, VRAM_INIT and OAM_INIT. Formalises R58. -/
def Obligations.PowerOnValues : Prop :=
  ∀ q : PowerOn,
    let s := State.powerOn q
    s.a = 0 ∧ s.x = 0 ∧ s.y = 0 ∧ s.sp = 0xFD ∧ s.p = ⟨false, false, true, false, false, false⟩ ∧
    s.cycles = 0 ∧ s.stop = false ∧ s.jammed = false ∧ s.refused = false ∧ s.nmiPending = false ∧
    s.dmaPending = false ∧ s.dmaSrc = 0 ∧ s.mem = q.memInit ∧ s.master = 0 ∧
    s.ppu = { vram := q.vramInit, oam := q.oamInit, ctrl := 0, mask := 0, vblank := false, sprite0Hit := false
              spriteOverflow := false, oamAddr := 0, ioLatch := 0, readBuffer := 0, t := 0, v := 0, x := 0, w := false
              dot := 0, scanline := 0, frame := 0, done := 0, mirroring := q.mirroring } ∧
    ∃ q', State.reset = State.powerOn q'

/-- Load mirrors or places the program image, places the graphics image, and enters at the word at $FFFC. Formalises
R602. -/
def Obligations.LoadPlacesTheImages : Prop :=
  ∀ (c : Cartridge) (s : State), c.wellFormed = true →
    let t := loadImage c s
    t = { s with
          mem := t.mem, mapperRange := ⟨0x8000, 0xFFFF⟩, pc := word16 (t.mem.read 0xFFFD) (t.mem.read 0xFFFC)
          ppu := { s.ppu with vram := t.ppu.vram, mirroring := c.mirroring } } ∧
    (∀ i < 32768, t.mem.read (0x8000 + i) = c.prg.getD (i % c.prg.length) 0) ∧
    (∀ a < 0x8000, t.mem.read a = s.mem.read a) ∧
    (∀ i < c.chr.length, t.ppu.vram.read i = c.chr.getD i 0) ∧
    ∀ i, c.chr.length ≤ i → t.ppu.vram.read i = s.ppu.vram.read i

/-- Load takes its images and mirroring from the file exactly on a right magic, mapper 0, legal sizes and length, else
faults. Formalises R604, R605. -/
def Obligations.LoadAcceptsOnlyTheFixedMapper : Prop :=
  ∀ (file : List Byte) (s : State),
    let at' := fun n : Nat => file.getD n 0
    let flags7 := if at' 7 = 0x44 then 0 else at' 7
    let trainer := if (at' 6).getLsbD 2 then 512 else 0
    let ok := 16 ≤ file.length ∧ file.take 4 = [0x4E, 0x45, 0x53, 0x1A] ∧
      (flags7 >>> 4 = 0 ∧ at' 6 >>> 4 = 0) ∧ (at' 4 = 1 ∨ at' 4 = 2) ∧ (at' 5 = 0 ∨ at' 5 = 1) ∧
      16 + trainer + 16384 * (at' 4).toNat + 8192 * (at' 5).toNat ≤ file.length
    let prg := (file.drop (16 + trainer)).take (16384 * (at' 4).toNat)
    let chr := (file.drop (16 + trainer + 16384 * (at' 4).toNat)).take (8192 * (at' 5).toNat)
    let mirroring := if (at' 6).getLsbD 0 then Mirroring.vertical else Mirroring.horizontal
    (ok → ∃ t, loadFile file s = .next t ∧ t = loadImage ⟨prg, chr, mirroring⟩ s ∧
      (∀ i < 16384 * (at' 4).toNat, prg.getD i 0 = at' (16 + trainer + i)) ∧
      (∀ i < 8192 * (at' 5).toNat, chr.getD i 0 = at' (16 + trainer + 16384 * (at' 4).toNat + i)) ∧
      (s.wf = true → t.wf = true)) ∧
    (¬ ok → ∃ e, loadFile file s = .fault e)

/-- A, X, Y and SP change only in the instructions that write them; no instruction touches time or the requests of
others. Derived from 10_state.md R31, 10_state.md R32, 10_state.md R33, 10_state.md R34, 10_state.md R47,
10_state.md R51. -/
def Obligations.RegistersChangeOnlyByTheirWriters : Prop :=
  ∀ (i : Instr) (s t : State), exec i s = .next t →
    let mn := i.row.mnemonic
    (mn ∉ ["ADC", "AND", "EOR", "LDA", "ORA", "SBC", "PLA", "TXA", "TYA", "LAX", "LAS", "SLO", "RLA", "SRE", "RRA", "ISC", "ANC",
          "ALR", "ARR", "ANE", "LXA", "USBC"] →
      i.operand.mode ≠ .accumulator → t.a = s.a) ∧
    (mn ∉ ["LDX", "DEX", "INX", "TAX", "TSX", "LAX", "LAS", "LXA", "SBX"] → t.x = s.x) ∧
    (mn ∉ ["LDY", "DEY", "INY", "TAY"] → t.y = s.y) ∧
    (mn ∉ ["PHA", "PHP", "PLA", "PLP", "JSR", "RTS", "RTI", "BRK", "TXS", "TAS", "LAS"] → t.sp = s.sp) ∧
    t.nmiPending = s.nmiPending ∧ t.irqLine = s.irqLine ∧ t.master = s.master ∧ t.mapperRange = s.mapperRange ∧
    t.params = s.params ∧ t.hostSteps = s.hostSteps ∧
    t.ppu.position = s.ppu.position ∧ t.ppu.frame = s.ppu.frame ∧ t.ppu.done = s.ppu.done ∧
    t.ppu.sprite0Hit = s.ppu.sprite0Hit ∧ t.ppu.spriteOverflow = s.ppu.spriteOverflow ∧
    (mn ∉ ["STA", "STX", "STY", "SAX", "INC", "DEC", "ASL", "LSR", "ROL", "ROR", "SLO", "RLA", "SRE", "RRA", "DCP",
        "ISC", "SHA", "SHX", "SHY", "TAS"] →
      t.dmaSrc = s.dmaSrc ∧ t.dmaPending = s.dmaPending ∧ t.ppu.oam = s.ppu.oam ∧ t.ppu.vram = s.ppu.vram ∧
      t.ppu.ctrl = s.ppu.ctrl ∧ t.ppu.mask = s.ppu.mask ∧ t.ppu.oamAddr = s.ppu.oamAddr ∧
      t.ppu.ioLatch = s.ppu.ioLatch ∧ t.ppu.t = s.ppu.t ∧ t.ppu.x = s.ppu.x)

/-- Each flag changes only in the instructions R39 lists as its writers. Derived from 10_state.md R39. -/
def Obligations.FlagsChangeOnlyByTheirWriters : Prop :=
  ∀ (i : Instr) (s t : State), exec i s = .next t →
    let mn := i.row.mnemonic
    (mn ∉ ["ADC", "SBC", "CMP", "CPX", "CPY", "ASL", "LSR", "ROL", "ROR", "CLC", "SEC", "PLP", "RTI", "SLO", "RLA", "SRE",
        "RRA", "DCP", "ISC", "ANC", "ALR", "ARR", "SBX", "USBC"] → t.p.c = s.p.c) ∧
    (mn ∉ ["LDA", "LDX", "LDY", "TAX", "TAY", "TXA", "TYA", "TSX", "PLA", "PLP", "ADC", "SBC", "AND", "ORA", "EOR", "CMP",
          "CPX", "CPY", "BIT", "INC", "DEC", "INX", "INY", "DEX", "DEY", "ASL", "LSR", "ROL", "ROR", "RTI", "SLO", "RLA", "SRE",
          "RRA", "DCP", "ISC", "LAX", "LAS", "ANC", "ALR", "ARR", "SBX", "USBC", "ANE", "LXA"] →
      t.p.z = s.p.z ∧ t.p.n = s.p.n) ∧
    (mn ∉ ["SEI", "CLI", "PLP", "RTI", "BRK"] → t.p.i = s.p.i) ∧
    (mn ∉ ["SED", "CLD", "PLP", "RTI"] → t.p.d = s.p.d) ∧
    (mn ∉ ["ADC", "SBC", "BIT", "CLV", "PLP", "RTI", "RRA", "ISC", "ARR", "USBC"] → t.p.v = s.p.v)

/-- Every byte of memory is unchanged but the one stored to: the resolved address, the stack cells, the unstable
address. Derived from 20_memory.md R102, 40_load_store_transfer.md R200, 10_state.md R40, 43_illegal.md R430. -/
def Obligations.MemoryChangesOnlyWhereStored : Prop :=
  ∀ (i : Instr) (s t : State), exec i s = .next t →
    let mn := i.row.mnemonic
    let r := (resolve i.operand s).1
    let unstable := fun (v : Byte) (c : Nat) =>
      c ≠ (redirect (r.unstableAddr (v &&& r.basePageNext))).toNat → t.mem.read c = s.mem.read c
    if mn ∈ ["STA", "STX", "STY", "SAX", "INC", "DEC", "ASL", "LSR", "ROL", "ROR", "SLO", "RLA", "SRE", "RRA", "DCP",
        "ISC"] then
      ∀ c, (∀ a, r.desc = .addr a → c ≠ (redirect a).toNat) → t.mem.read c = s.mem.read c
    else if mn ∈ ["PHA", "PHP"] then ∀ c, c ≠ stackIndex s.sp → t.mem.read c = s.mem.read c
    else if mn = "JSR" then
      ∀ c, c ≠ stackIndex s.sp → c ≠ stackIndex (s.sp - 1) → t.mem.read c = s.mem.read c
    else if mn = "BRK" then
      ∀ c, c ≠ stackIndex s.sp → c ≠ stackIndex (s.sp - 1) → c ≠ stackIndex (s.sp - 2) →
        t.mem.read c = s.mem.read c
    else if mn = "SHA" ∨ mn = "TAS" then ∀ c, unstable (s.a &&& s.x) c
    else if mn = "SHX" then ∀ c, unstable s.x c
    else if mn = "SHY" then ∀ c, unstable s.y c
    else ∀ c, t.mem.read c = s.mem.read c
end

