-- ==== Sys2Proof/Laws/Memory.lean ====
section
/-! SUPPORT. The laws of byte memories: read after write, and that every operation keeps the canonical form. -/

namespace Sys2Proof.Machine

@[simp] theorem Mem.read_nil (a : Nat) : Mem.read [] a = unlistedByte := rfl

theorem Mem.read_cons (k : Nat) (b : Byte) (m : Mem) (a : Nat) :
    Mem.read ((k, b) :: m) a = if k = a then b else Mem.read m a := rfl

theorem Mem.erase_cons (k : Nat) (b : Byte) (m : Mem) (a : Nat) :
    Mem.erase ((k, b) :: m) a = if k = a then m.erase a else (k, b) :: m.erase a := by
  by_cases h : k = a <;> simp [Mem.erase, h]

theorem Mem.insert_cons (k : Nat) (c : Byte) (m : Mem) (a : Nat) (b : Byte) :
    Mem.insert ((k, c) :: m) a b = if a < k then (a, b) :: (k, c) :: m else (k, c) :: Mem.insert m a b := rfl

theorem Mem.read_erase_same (m : Mem) (a : Nat) : (m.erase a).read a = unlistedByte := by
  induction m with
  | nil => rfl
  | cons c m ih =>
    obtain ⟨k, b⟩ := c
    rw [Mem.erase_cons]
    split
    · exact ih
    · rename_i h
      simp [Mem.read_cons, h, ih]

theorem Mem.read_erase_other (m : Mem) {a b : Nat} (h : b ≠ a) : (m.erase a).read b = m.read b := by
  induction m with
  | nil => rfl
  | cons c m ih =>
    obtain ⟨k, v⟩ := c
    rw [Mem.erase_cons]
    split
    · rename_i hk
      rw [Mem.read_cons, if_neg (fun e => h (e.symm.trans hk)), ih]
    · rw [Mem.read_cons, Mem.read_cons, ih]

theorem Mem.read_insert_same (m : Mem) (a : Nat) (b : Byte) (h : ∀ c ∈ m, c.1 ≠ a) : (m.insert a b).read a = b := by
  induction m with
  | nil => simp [Mem.insert, Mem.read_cons]
  | cons c m ih =>
    obtain ⟨k, v⟩ := c
    have hk : k ≠ a := h (k, v) (by simp)
    rw [Mem.insert_cons]
    split
    · simp [Mem.read_cons]
    · rw [Mem.read_cons, if_neg hk, ih fun c hc => h c (by simp [hc])]

theorem Mem.read_insert_other (m : Mem) {a c : Nat} (b : Byte) (h : c ≠ a) : (m.insert a b).read c = m.read c := by
  induction m with
  | nil => simp [Mem.insert, Mem.read_cons, h.symm]
  | cons e m ih =>
    obtain ⟨k, v⟩ := e
    rw [Mem.insert_cons]
    split
    · rw [Mem.read_cons, if_neg h.symm]
    · rw [Mem.read_cons, Mem.read_cons, ih]

/-- A read after a write of the same address gives the byte written. -/
@[simp] theorem Mem.read_write_same (m : Mem) (a : Nat) (b : Byte) : (m.write a b).read a = b := by
  unfold Mem.write
  split
  · rename_i h
    rw [Mem.read_erase_same, h]
  · apply Mem.read_insert_same
    intro c hc
    have : c ∈ m.filter fun c => c.1 != a := hc
    simpa using (List.mem_filter.mp this).2

/-- A write leaves every other address alone. -/
theorem Mem.read_write_other (m : Mem) {a c : Nat} (b : Byte) (h : c ≠ a) : (m.write a b).read c = m.read c := by
  unfold Mem.write
  split
  · exact Mem.read_erase_other m h
  · rw [Mem.read_insert_other _ b h, Mem.read_erase_other m h]

theorem Mem.risesFrom_mono {l l' : Nat} (h : l' ≤ l) (m : Mem) (hm : Mem.risesFrom l m = true) :
    Mem.risesFrom l' m = true := by
  cases m with
  | nil => rfl
  | cons c m =>
    obtain ⟨k, b⟩ := c
    simp only [Mem.risesFrom, Bool.and_eq_true, decide_eq_true_eq] at hm ⊢
    exact ⟨⟨h.trans hm.1.1, hm.1.2⟩, hm.2⟩

theorem Mem.risesFrom_erase (l : Nat) (m : Mem) (a : Nat) (hm : Mem.risesFrom l m = true) :
    Mem.risesFrom l (m.erase a) = true := by
  induction m generalizing l with
  | nil => rfl
  | cons c m ih =>
    obtain ⟨k, b⟩ := c
    rw [Mem.erase_cons]
    simp only [Mem.risesFrom, Bool.and_eq_true, decide_eq_true_eq] at hm
    split
    · exact Mem.risesFrom_mono (by omega) _ (ih _ hm.2)
    · simp only [Mem.risesFrom, Bool.and_eq_true, decide_eq_true_eq]
      exact ⟨hm.1, ih _ hm.2⟩

theorem Mem.risesFrom_insert (l : Nat) (m : Mem) (a : Nat) (b : Byte) (hb : b ≠ unlistedByte) (hl : l ≤ a)
    (h : ∀ c ∈ m, c.1 ≠ a) (hm : Mem.risesFrom l m = true) : Mem.risesFrom l (m.insert a b) = true := by
  induction m generalizing l with
  | nil => simp [Mem.insert, Mem.risesFrom, hb, hl]
  | cons c m ih =>
    obtain ⟨k, v⟩ := c
    have hk : k ≠ a := h (k, v) (by simp)
    rw [Mem.insert_cons]
    simp only [Mem.risesFrom, Bool.and_eq_true, decide_eq_true_eq] at hm
    split
    · rename_i hlt
      simp only [Mem.risesFrom, Bool.and_eq_true, decide_eq_true_eq, bne_iff_ne]
      exact ⟨⟨hl, hb⟩, ⟨by omega, by simpa using hm.1.2⟩, hm.2⟩
    · simp only [Mem.risesFrom, Bool.and_eq_true, decide_eq_true_eq]
      exact ⟨hm.1, ih _ (by omega) (fun c hc => h c (by simp [hc])) hm.2⟩

theorem Mem.erase_bounded (size : Nat) (m : Mem) (a : Nat) (hm : ∀ c ∈ m, c.1 < size) : ∀ c ∈ m.erase a, c.1 < size :=
  fun c hc => hm c (List.mem_filter.mp hc).1

theorem Mem.insert_bounded (size : Nat) (m : Mem) (a : Nat) (b : Byte) (ha : a < size) (hm : ∀ c ∈ m, c.1 < size) :
    ∀ c ∈ m.insert a b, c.1 < size := by
  induction m with
  | nil => simp [Mem.insert, ha]
  | cons e m ih =>
    obtain ⟨k, v⟩ := e
    rw [Mem.insert_cons]
    split
    · simpa [ha] using hm
    · simp only [List.mem_cons, forall_eq_or_imp] at hm ⊢
      exact ⟨hm.1, ih hm.2⟩

@[simp] theorem Mem.wf_nil (size : Nat) : Mem.wf size [] = true := rfl

/-- A write within the memory's size keeps the canonical form. -/
theorem Mem.wf_write {size : Nat} {m : Mem} {a : Nat} (b : Byte) (ha : a < size) (hm : m.wf size = true) :
    (m.write a b).wf size = true := by
  simp only [Mem.wf, Bool.and_eq_true, List.all_eq_true, decide_eq_true_eq] at hm ⊢
  unfold Mem.write
  split
  · exact ⟨Mem.risesFrom_erase 0 m a hm.1, Mem.erase_bounded size m a hm.2⟩
  · rename_i hb
    refine ⟨Mem.risesFrom_insert 0 _ a b hb (Nat.zero_le a) ?_ (Mem.risesFrom_erase 0 m a hm.1),
      Mem.insert_bounded size _ a b ha (Mem.erase_bounded size m a hm.2)⟩
    intro c hc
    have : c ∈ m.filter fun c => c.1 != a := hc
    simpa using (List.mem_filter.mp this).2

/-- Erasing keeps the canonical form. -/
theorem Mem.wf_erase {size : Nat} {m : Mem} (a : Nat) (hm : m.wf size = true) : (m.erase a).wf size = true := by
  simp only [Mem.wf, Bool.and_eq_true, List.all_eq_true, decide_eq_true_eq] at hm ⊢
  exact ⟨Mem.risesFrom_erase 0 m a hm.1, Mem.erase_bounded size m a hm.2⟩

/-- A block write within the memory's size keeps the canonical form. -/
theorem Mem.wf_writeBlock {size : Nat} {m : Mem} (a : Nat) (bs : List Byte) (ha : a + bs.length ≤ size)
    (hm : m.wf size = true) : (m.writeBlock a bs).wf size = true := by
  induction bs generalizing m a with
  | nil => exact hm
  | cons b bs ih =>
    simp only [List.length_cons] at ha
    exact ih (a + 1) (by omega) (Mem.wf_write b (by omega) hm)

end Sys2Proof.Machine
end

