-- ==== Sys2Proof/Laws/Ppu.lean ====
section
/-! SUPPORT. What the PPU's operations can change, said once for each: a register read, a register write, one dot. -/

namespace Sys2Proof.Machine

/-- A register read changes at most vblank, w, the read buffer and v (R543, R550). -/
theorem Ppu.regRead_eq (u : Ppu) (n : BitVec 3) :
    (u.regRead n).2 =
      { u with
        vblank := (u.regRead n).2.vblank, w := (u.regRead n).2.w
        readBuffer := (u.regRead n).2.readBuffer, v := (u.regRead n).2.v } := by
  unfold Ppu.regRead Ppu.dataRead Ppu.increment
  split_ifs <;> rfl

@[simp] theorem Ppu.regRead_vram (u : Ppu) (n : BitVec 3) : (u.regRead n).2.vram = u.vram := by
  rw [Ppu.regRead_eq]

@[simp] theorem Ppu.regRead_oam (u : Ppu) (n : BitVec 3) : (u.regRead n).2.oam = u.oam := by
  rw [Ppu.regRead_eq]

@[simp] theorem Ppu.regRead_ctrl (u : Ppu) (n : BitVec 3) : (u.regRead n).2.ctrl = u.ctrl := by
  rw [Ppu.regRead_eq]

@[simp] theorem Ppu.regRead_mask (u : Ppu) (n : BitVec 3) : (u.regRead n).2.mask = u.mask := by
  rw [Ppu.regRead_eq]

@[simp] theorem Ppu.regRead_sprite0Hit (u : Ppu) (n : BitVec 3) : (u.regRead n).2.sprite0Hit = u.sprite0Hit := by
  rw [Ppu.regRead_eq]

@[simp] theorem Ppu.regRead_spriteOverflow (u : Ppu) (n : BitVec 3) : (u.regRead n).2.spriteOverflow = u.spriteOverflow := by
  rw [Ppu.regRead_eq]

@[simp] theorem Ppu.regRead_oamAddr (u : Ppu) (n : BitVec 3) : (u.regRead n).2.oamAddr = u.oamAddr := by
  rw [Ppu.regRead_eq]

@[simp] theorem Ppu.regRead_ioLatch (u : Ppu) (n : BitVec 3) : (u.regRead n).2.ioLatch = u.ioLatch := by
  rw [Ppu.regRead_eq]

@[simp] theorem Ppu.regRead_t (u : Ppu) (n : BitVec 3) : (u.regRead n).2.t = u.t := by
  rw [Ppu.regRead_eq]

@[simp] theorem Ppu.regRead_x (u : Ppu) (n : BitVec 3) : (u.regRead n).2.x = u.x := by
  rw [Ppu.regRead_eq]

@[simp] theorem Ppu.regRead_dot (u : Ppu) (n : BitVec 3) : (u.regRead n).2.dot = u.dot := by
  rw [Ppu.regRead_eq]

@[simp] theorem Ppu.regRead_scanline (u : Ppu) (n : BitVec 3) : (u.regRead n).2.scanline = u.scanline := by
  rw [Ppu.regRead_eq]

@[simp] theorem Ppu.regRead_frame (u : Ppu) (n : BitVec 3) : (u.regRead n).2.frame = u.frame := by
  rw [Ppu.regRead_eq]

@[simp] theorem Ppu.regRead_done (u : Ppu) (n : BitVec 3) : (u.regRead n).2.done = u.done := by
  rw [Ppu.regRead_eq]

@[simp] theorem Ppu.regRead_mirroring (u : Ppu) (n : BitVec 3) : (u.regRead n).2.mirroring = u.mirroring := by
  rw [Ppu.regRead_eq]

/-- A register write changes neither the status flags, the read buffer nor the timing state (R544–R551). -/
theorem Ppu.regWrite_eq (u : Ppu) (n : BitVec 3) (b : Byte) :
    u.regWrite n b =
      { u with
        ioLatch := b, vram := (u.regWrite n b).vram, oam := (u.regWrite n b).oam, ctrl := (u.regWrite n b).ctrl
        mask := (u.regWrite n b).mask, oamAddr := (u.regWrite n b).oamAddr, t := (u.regWrite n b).t
        v := (u.regWrite n b).v, x := (u.regWrite n b).x, w := (u.regWrite n b).w } := by
  unfold Ppu.regWrite Ppu.regEffect Ppu.ctrlWrite Ppu.oamWrite Ppu.scrollWrite Ppu.addrWrite Ppu.dataWrite Ppu.increment
    Ppu.memWrite
  split_ifs <;> rfl

@[simp] theorem Ppu.regWrite_ioLatch (u : Ppu) (n : BitVec 3) (b : Byte) : (u.regWrite n b).ioLatch = b := by
  rw [Ppu.regWrite_eq]

@[simp] theorem Ppu.regWrite_vblank (u : Ppu) (n : BitVec 3) (b : Byte) : (u.regWrite n b).vblank = u.vblank := by
  rw [Ppu.regWrite_eq]

@[simp] theorem Ppu.regWrite_sprite0Hit (u : Ppu) (n : BitVec 3) (b : Byte) : (u.regWrite n b).sprite0Hit = u.sprite0Hit := by
  rw [Ppu.regWrite_eq]

@[simp] theorem Ppu.regWrite_spriteOverflow (u : Ppu) (n : BitVec 3) (b : Byte) : (u.regWrite n b).spriteOverflow = u.spriteOverflow := by
  rw [Ppu.regWrite_eq]

@[simp] theorem Ppu.regWrite_readBuffer (u : Ppu) (n : BitVec 3) (b : Byte) : (u.regWrite n b).readBuffer = u.readBuffer := by
  rw [Ppu.regWrite_eq]

@[simp] theorem Ppu.regWrite_dot (u : Ppu) (n : BitVec 3) (b : Byte) : (u.regWrite n b).dot = u.dot := by
  rw [Ppu.regWrite_eq]

@[simp] theorem Ppu.regWrite_scanline (u : Ppu) (n : BitVec 3) (b : Byte) : (u.regWrite n b).scanline = u.scanline := by
  rw [Ppu.regWrite_eq]

@[simp] theorem Ppu.regWrite_frame (u : Ppu) (n : BitVec 3) (b : Byte) : (u.regWrite n b).frame = u.frame := by
  rw [Ppu.regWrite_eq]

@[simp] theorem Ppu.regWrite_done (u : Ppu) (n : BitVec 3) (b : Byte) : (u.regWrite n b).done = u.done := by
  rw [Ppu.regWrite_eq]

@[simp] theorem Ppu.regWrite_mirroring (u : Ppu) (n : BitVec 3) (b : Byte) : (u.regWrite n b).mirroring = u.mirroring := by
  rw [Ppu.regWrite_eq]

/-- `AdvancePosition` changes only the position and the frame count (R564). -/
theorem Ppu.advancePosition_eq (u : Ppu) :
    u.advancePosition =
      { u with
        dot := u.advancePosition.dot, scanline := u.advancePosition.scanline, frame := u.advancePosition.frame } := by
  unfold Ppu.advancePosition
  split_ifs <;> rfl

@[simp] theorem Ppu.advancePosition_vram (u : Ppu) : u.advancePosition.vram = u.vram := by
  rw [Ppu.advancePosition_eq]

@[simp] theorem Ppu.advancePosition_oam (u : Ppu) : u.advancePosition.oam = u.oam := by
  rw [Ppu.advancePosition_eq]

@[simp] theorem Ppu.advancePosition_ctrl (u : Ppu) : u.advancePosition.ctrl = u.ctrl := by
  rw [Ppu.advancePosition_eq]

@[simp] theorem Ppu.advancePosition_mask (u : Ppu) : u.advancePosition.mask = u.mask := by
  rw [Ppu.advancePosition_eq]

@[simp] theorem Ppu.advancePosition_vblank (u : Ppu) : u.advancePosition.vblank = u.vblank := by
  rw [Ppu.advancePosition_eq]

@[simp] theorem Ppu.advancePosition_sprite0Hit (u : Ppu) : u.advancePosition.sprite0Hit = u.sprite0Hit := by
  rw [Ppu.advancePosition_eq]

@[simp] theorem Ppu.advancePosition_spriteOverflow (u : Ppu) : u.advancePosition.spriteOverflow = u.spriteOverflow := by
  rw [Ppu.advancePosition_eq]

@[simp] theorem Ppu.advancePosition_oamAddr (u : Ppu) : u.advancePosition.oamAddr = u.oamAddr := by
  rw [Ppu.advancePosition_eq]

@[simp] theorem Ppu.advancePosition_ioLatch (u : Ppu) : u.advancePosition.ioLatch = u.ioLatch := by
  rw [Ppu.advancePosition_eq]

@[simp] theorem Ppu.advancePosition_readBuffer (u : Ppu) : u.advancePosition.readBuffer = u.readBuffer := by
  rw [Ppu.advancePosition_eq]

@[simp] theorem Ppu.advancePosition_t (u : Ppu) : u.advancePosition.t = u.t := by
  rw [Ppu.advancePosition_eq]

@[simp] theorem Ppu.advancePosition_v (u : Ppu) : u.advancePosition.v = u.v := by
  rw [Ppu.advancePosition_eq]

@[simp] theorem Ppu.advancePosition_x (u : Ppu) : u.advancePosition.x = u.x := by
  rw [Ppu.advancePosition_eq]

@[simp] theorem Ppu.advancePosition_w (u : Ppu) : u.advancePosition.w = u.w := by
  rw [Ppu.advancePosition_eq]

@[simp] theorem Ppu.advancePosition_done (u : Ppu) : u.advancePosition.done = u.done := by
  rw [Ppu.advancePosition_eq]

@[simp] theorem Ppu.advancePosition_mirroring (u : Ppu) : u.advancePosition.mirroring = u.mirroring := by
  rw [Ppu.advancePosition_eq]

/-- One dot changes at most the position, the frame count, the three status flags and v (R568). -/
theorem Ppu.tick_eq (u : Ppu) (offset : Nat) :
    u.tick offset =
      { u with
        vblank := (u.tick offset).vblank, sprite0Hit := (u.tick offset).sprite0Hit
        spriteOverflow := (u.tick offset).spriteOverflow, v := (u.tick offset).v
        dot := u.advancePosition.dot, scanline := u.advancePosition.scanline, frame := u.advancePosition.frame } := by
  unfold Ppu.tick Ppu.addressReload Ppu.spriteClear Ppu.vblankClear Ppu.vblankSet Ppu.spriteOracle
  simp

@[simp] theorem Ppu.tick_vram (u : Ppu) (offset : Nat) : (u.tick offset).vram = u.vram := by
  rw [Ppu.tick_eq]

@[simp] theorem Ppu.tick_oam (u : Ppu) (offset : Nat) : (u.tick offset).oam = u.oam := by
  rw [Ppu.tick_eq]

@[simp] theorem Ppu.tick_ctrl (u : Ppu) (offset : Nat) : (u.tick offset).ctrl = u.ctrl := by
  rw [Ppu.tick_eq]

@[simp] theorem Ppu.tick_mask (u : Ppu) (offset : Nat) : (u.tick offset).mask = u.mask := by
  rw [Ppu.tick_eq]

@[simp] theorem Ppu.tick_oamAddr (u : Ppu) (offset : Nat) : (u.tick offset).oamAddr = u.oamAddr := by
  rw [Ppu.tick_eq]

@[simp] theorem Ppu.tick_ioLatch (u : Ppu) (offset : Nat) : (u.tick offset).ioLatch = u.ioLatch := by
  rw [Ppu.tick_eq]

@[simp] theorem Ppu.tick_readBuffer (u : Ppu) (offset : Nat) : (u.tick offset).readBuffer = u.readBuffer := by
  rw [Ppu.tick_eq]

@[simp] theorem Ppu.tick_t (u : Ppu) (offset : Nat) : (u.tick offset).t = u.t := by
  rw [Ppu.tick_eq]

@[simp] theorem Ppu.tick_x (u : Ppu) (offset : Nat) : (u.tick offset).x = u.x := by
  rw [Ppu.tick_eq]

@[simp] theorem Ppu.tick_w (u : Ppu) (offset : Nat) : (u.tick offset).w = u.w := by
  rw [Ppu.tick_eq]

@[simp] theorem Ppu.tick_dot (u : Ppu) (offset : Nat) : (u.tick offset).dot = u.advancePosition.dot := by
  rw [Ppu.tick_eq]

@[simp] theorem Ppu.tick_scanline (u : Ppu) (offset : Nat) : (u.tick offset).scanline = u.advancePosition.scanline := by
  rw [Ppu.tick_eq]

@[simp] theorem Ppu.tick_frame (u : Ppu) (offset : Nat) : (u.tick offset).frame = u.advancePosition.frame := by
  rw [Ppu.tick_eq]

@[simp] theorem Ppu.tick_done (u : Ppu) (offset : Nat) : (u.tick offset).done = u.done := by
  rw [Ppu.tick_eq]

@[simp] theorem Ppu.tick_mirroring (u : Ppu) (offset : Nat) : (u.tick offset).mirroring = u.mirroring := by
  rw [Ppu.tick_eq]

theorem and_toNat_le (a m : Addr) : (a &&& m).toNat ≤ m.toNat := by
  rw [BitVec.toNat_and]
  exact Nat.and_le_right

theorem paletteCell_le (a : Addr) : (paletteCell a).toNat ≤ 0x1F := by
  have h := and_toNat_le a 0x001F#16
  unfold paletteCell
  generalize a &&& 0x001F#16 = p at h
  dsimp only
  split_ifs <;> bv_omega

theorem physicalTable_le (m : Mirroring) (n : Addr) (h : n.toNat ≤ 3) : (physicalTable m n).toNat ≤ 1 := by
  cases m <;> simp only [physicalTable]
  · exact (and_toNat_le n 1#16).trans (by decide)
  · rw [BitVec.toNat_ushiftRight, Nat.shiftRight_eq_div_pow]
    omega
  · decide
  · decide

/-- PPU redirection gives a PPU address, below $4000 (R120). -/
theorem ppuRedirect_lt (m : Mirroring) (a : Addr) : (ppuRedirect m a).toNat < 0x4000 := by
  have h := and_toNat_le a 0x3FFF#16
  unfold ppuRedirect
  generalize a &&& 0x3FFF#16 = b at h
  dsimp only
  split_ifs with h1 h2 h3 h3
  · have := paletteCell_le b
    bv_omega
  · have hp := physicalTable_le m ((b - 0x1000#16) >>> 10 &&& 3#16) ((and_toNat_le _ 3#16).trans (by decide))
    have ho := and_toNat_le (b - 0x1000#16) 0x03FF#16
    generalize physicalTable m _ = q at hp
    generalize (b - 0x1000#16) &&& 0x03FF#16 = o at ho
    bv_omega
  · bv_omega
  · have hp := physicalTable_le m (b >>> 10 &&& 3#16) ((and_toNat_le _ 3#16).trans (by decide))
    have ho := and_toNat_le b 0x03FF#16
    generalize physicalTable m _ = q at hp
    generalize b &&& 0x03FF#16 = o at ho
    bv_omega
  · bv_omega

/-- A register write keeps video memory in canonical form. -/
theorem Ppu.regWrite_vram_wf (u : Ppu) (n : BitVec 3) (b : Byte) (h : u.vram.wf 0x4000 = true) :
    (u.regWrite n b).vram.wf 0x4000 = true := by
  unfold Ppu.regWrite Ppu.regEffect Ppu.ctrlWrite Ppu.oamWrite Ppu.scrollWrite Ppu.addrWrite Ppu.dataWrite Ppu.increment
    Ppu.memWrite
  split_ifs <;> first | exact h | exact Mem.wf_write b (ppuRedirect_lt _ _) h

/-- A register write keeps sprite memory in canonical form. -/
theorem Ppu.regWrite_oam_wf (u : Ppu) (n : BitVec 3) (b : Byte) (h : u.oam.wf 0x100 = true) :
    (u.regWrite n b).oam.wf 0x100 = true := by
  unfold Ppu.regWrite Ppu.regEffect Ppu.ctrlWrite Ppu.oamWrite Ppu.scrollWrite Ppu.addrWrite Ppu.dataWrite Ppu.increment
    Ppu.memWrite
  split_ifs <;> first | exact h | exact Mem.wf_write b u.oamAddr.isLt h

/-- The bits `start .. start + len - 1` come from the value, the others stay (R545–R547). -/
theorem getLsbD_setBits (t : BitVec 15) (start len : Nat) (f : BitVec 15) {i : Nat} (hi : i < 15) :
    (setBits t start len f).getLsbD i =
      if start ≤ i ∧ i < start + len then f.getLsbD (i - start) else t.getLsbD i := by
  have hj : i - start < 15 := by omega
  simp only [setBits, BitVec.getLsbD_or, BitVec.getLsbD_and, BitVec.getLsbD_not, BitVec.getLsbD_shiftLeft,
    BitVec.getLsbD_ofNat, Nat.testBit_two_pow_sub_one, hi, hj, decide_true, Bool.true_and]
  by_cases h : start ≤ i
  · by_cases hl : i < start + len
    · simp [h, hl, Nat.not_lt.mpr h, show i - start < len by omega]
    · simp [h, hl, Nat.not_lt.mpr h, show ¬ i - start < len by omega]
  · simp [h, Nat.lt_of_not_le h]

end Sys2Proof.Machine
end

