-- ==== Sys2Proof/Laws/State.lean ====
section
/-! SUPPORT. One lemma per field per register update of the state: what it becomes, or that it stays. -/

namespace Sys2Proof.Machine

@[simp] theorem State.setA_a (s : State) (v : Byte) : (s.setA v).a = v := rfl
@[simp] theorem State.setA_x (s : State) (v : Byte) : (s.setA v).x = s.x := rfl
@[simp] theorem State.setA_y (s : State) (v : Byte) : (s.setA v).y = s.y := rfl
@[simp] theorem State.setA_sp (s : State) (v : Byte) : (s.setA v).sp = s.sp := rfl
@[simp] theorem State.setA_pc (s : State) (v : Byte) : (s.setA v).pc = s.pc := rfl
@[simp] theorem State.setA_p (s : State) (v : Byte) : (s.setA v).p = s.p := rfl
@[simp] theorem State.setA_cycles (s : State) (v : Byte) : (s.setA v).cycles = s.cycles := rfl
@[simp] theorem State.setA_stop (s : State) (v : Byte) : (s.setA v).stop = s.stop := rfl
@[simp] theorem State.setA_jammed (s : State) (v : Byte) : (s.setA v).jammed = s.jammed := rfl
@[simp] theorem State.setA_refused (s : State) (v : Byte) : (s.setA v).refused = s.refused := rfl
@[simp] theorem State.setA_nmiPending (s : State) (v : Byte) : (s.setA v).nmiPending = s.nmiPending := rfl
@[simp] theorem State.setA_dmaPending (s : State) (v : Byte) : (s.setA v).dmaPending = s.dmaPending := rfl
@[simp] theorem State.setA_dmaSrc (s : State) (v : Byte) : (s.setA v).dmaSrc = s.dmaSrc := rfl
@[simp] theorem State.setA_irqLine (s : State) (v : Byte) : (s.setA v).irqLine = s.irqLine := rfl
@[simp] theorem State.setA_mem (s : State) (v : Byte) : (s.setA v).mem = s.mem := rfl
@[simp] theorem State.setA_mapperRange (s : State) (v : Byte) : (s.setA v).mapperRange = s.mapperRange := rfl
@[simp] theorem State.setA_master (s : State) (v : Byte) : (s.setA v).master = s.master := rfl
@[simp] theorem State.setA_ppu (s : State) (v : Byte) : (s.setA v).ppu = s.ppu := rfl
@[simp] theorem State.setA_params (s : State) (v : Byte) : (s.setA v).params = s.params := rfl
@[simp] theorem State.setA_hostSteps (s : State) (v : Byte) : (s.setA v).hostSteps = s.hostSteps := rfl
@[simp] theorem State.setA_controllerLog (s : State) (v : Byte) : (s.setA v).controllerLog = s.controllerLog := rfl

@[simp] theorem State.setX_a (s : State) (v : Byte) : (s.setX v).a = s.a := rfl
@[simp] theorem State.setX_x (s : State) (v : Byte) : (s.setX v).x = v := rfl
@[simp] theorem State.setX_y (s : State) (v : Byte) : (s.setX v).y = s.y := rfl
@[simp] theorem State.setX_sp (s : State) (v : Byte) : (s.setX v).sp = s.sp := rfl
@[simp] theorem State.setX_pc (s : State) (v : Byte) : (s.setX v).pc = s.pc := rfl
@[simp] theorem State.setX_p (s : State) (v : Byte) : (s.setX v).p = s.p := rfl
@[simp] theorem State.setX_cycles (s : State) (v : Byte) : (s.setX v).cycles = s.cycles := rfl
@[simp] theorem State.setX_stop (s : State) (v : Byte) : (s.setX v).stop = s.stop := rfl
@[simp] theorem State.setX_jammed (s : State) (v : Byte) : (s.setX v).jammed = s.jammed := rfl
@[simp] theorem State.setX_refused (s : State) (v : Byte) : (s.setX v).refused = s.refused := rfl
@[simp] theorem State.setX_nmiPending (s : State) (v : Byte) : (s.setX v).nmiPending = s.nmiPending := rfl
@[simp] theorem State.setX_dmaPending (s : State) (v : Byte) : (s.setX v).dmaPending = s.dmaPending := rfl
@[simp] theorem State.setX_dmaSrc (s : State) (v : Byte) : (s.setX v).dmaSrc = s.dmaSrc := rfl
@[simp] theorem State.setX_irqLine (s : State) (v : Byte) : (s.setX v).irqLine = s.irqLine := rfl
@[simp] theorem State.setX_mem (s : State) (v : Byte) : (s.setX v).mem = s.mem := rfl
@[simp] theorem State.setX_mapperRange (s : State) (v : Byte) : (s.setX v).mapperRange = s.mapperRange := rfl
@[simp] theorem State.setX_master (s : State) (v : Byte) : (s.setX v).master = s.master := rfl
@[simp] theorem State.setX_ppu (s : State) (v : Byte) : (s.setX v).ppu = s.ppu := rfl
@[simp] theorem State.setX_params (s : State) (v : Byte) : (s.setX v).params = s.params := rfl
@[simp] theorem State.setX_hostSteps (s : State) (v : Byte) : (s.setX v).hostSteps = s.hostSteps := rfl
@[simp] theorem State.setX_controllerLog (s : State) (v : Byte) : (s.setX v).controllerLog = s.controllerLog := rfl

@[simp] theorem State.setY_a (s : State) (v : Byte) : (s.setY v).a = s.a := rfl
@[simp] theorem State.setY_x (s : State) (v : Byte) : (s.setY v).x = s.x := rfl
@[simp] theorem State.setY_y (s : State) (v : Byte) : (s.setY v).y = v := rfl
@[simp] theorem State.setY_sp (s : State) (v : Byte) : (s.setY v).sp = s.sp := rfl
@[simp] theorem State.setY_pc (s : State) (v : Byte) : (s.setY v).pc = s.pc := rfl
@[simp] theorem State.setY_p (s : State) (v : Byte) : (s.setY v).p = s.p := rfl
@[simp] theorem State.setY_cycles (s : State) (v : Byte) : (s.setY v).cycles = s.cycles := rfl
@[simp] theorem State.setY_stop (s : State) (v : Byte) : (s.setY v).stop = s.stop := rfl
@[simp] theorem State.setY_jammed (s : State) (v : Byte) : (s.setY v).jammed = s.jammed := rfl
@[simp] theorem State.setY_refused (s : State) (v : Byte) : (s.setY v).refused = s.refused := rfl
@[simp] theorem State.setY_nmiPending (s : State) (v : Byte) : (s.setY v).nmiPending = s.nmiPending := rfl
@[simp] theorem State.setY_dmaPending (s : State) (v : Byte) : (s.setY v).dmaPending = s.dmaPending := rfl
@[simp] theorem State.setY_dmaSrc (s : State) (v : Byte) : (s.setY v).dmaSrc = s.dmaSrc := rfl
@[simp] theorem State.setY_irqLine (s : State) (v : Byte) : (s.setY v).irqLine = s.irqLine := rfl
@[simp] theorem State.setY_mem (s : State) (v : Byte) : (s.setY v).mem = s.mem := rfl
@[simp] theorem State.setY_mapperRange (s : State) (v : Byte) : (s.setY v).mapperRange = s.mapperRange := rfl
@[simp] theorem State.setY_master (s : State) (v : Byte) : (s.setY v).master = s.master := rfl
@[simp] theorem State.setY_ppu (s : State) (v : Byte) : (s.setY v).ppu = s.ppu := rfl
@[simp] theorem State.setY_params (s : State) (v : Byte) : (s.setY v).params = s.params := rfl
@[simp] theorem State.setY_hostSteps (s : State) (v : Byte) : (s.setY v).hostSteps = s.hostSteps := rfl
@[simp] theorem State.setY_controllerLog (s : State) (v : Byte) : (s.setY v).controllerLog = s.controllerLog := rfl

@[simp] theorem State.setSp_a (s : State) (v : Byte) : (s.setSp v).a = s.a := rfl
@[simp] theorem State.setSp_x (s : State) (v : Byte) : (s.setSp v).x = s.x := rfl
@[simp] theorem State.setSp_y (s : State) (v : Byte) : (s.setSp v).y = s.y := rfl
@[simp] theorem State.setSp_sp (s : State) (v : Byte) : (s.setSp v).sp = v := rfl
@[simp] theorem State.setSp_pc (s : State) (v : Byte) : (s.setSp v).pc = s.pc := rfl
@[simp] theorem State.setSp_p (s : State) (v : Byte) : (s.setSp v).p = s.p := rfl
@[simp] theorem State.setSp_cycles (s : State) (v : Byte) : (s.setSp v).cycles = s.cycles := rfl
@[simp] theorem State.setSp_stop (s : State) (v : Byte) : (s.setSp v).stop = s.stop := rfl
@[simp] theorem State.setSp_jammed (s : State) (v : Byte) : (s.setSp v).jammed = s.jammed := rfl
@[simp] theorem State.setSp_refused (s : State) (v : Byte) : (s.setSp v).refused = s.refused := rfl
@[simp] theorem State.setSp_nmiPending (s : State) (v : Byte) : (s.setSp v).nmiPending = s.nmiPending := rfl
@[simp] theorem State.setSp_dmaPending (s : State) (v : Byte) : (s.setSp v).dmaPending = s.dmaPending := rfl
@[simp] theorem State.setSp_dmaSrc (s : State) (v : Byte) : (s.setSp v).dmaSrc = s.dmaSrc := rfl
@[simp] theorem State.setSp_irqLine (s : State) (v : Byte) : (s.setSp v).irqLine = s.irqLine := rfl
@[simp] theorem State.setSp_mem (s : State) (v : Byte) : (s.setSp v).mem = s.mem := rfl
@[simp] theorem State.setSp_mapperRange (s : State) (v : Byte) : (s.setSp v).mapperRange = s.mapperRange := rfl
@[simp] theorem State.setSp_master (s : State) (v : Byte) : (s.setSp v).master = s.master := rfl
@[simp] theorem State.setSp_ppu (s : State) (v : Byte) : (s.setSp v).ppu = s.ppu := rfl
@[simp] theorem State.setSp_params (s : State) (v : Byte) : (s.setSp v).params = s.params := rfl
@[simp] theorem State.setSp_hostSteps (s : State) (v : Byte) : (s.setSp v).hostSteps = s.hostSteps := rfl
@[simp] theorem State.setSp_controllerLog (s : State) (v : Byte) : (s.setSp v).controllerLog = s.controllerLog := rfl

@[simp] theorem State.setPc_a (s : State) (v : Addr) : (s.setPc v).a = s.a := rfl
@[simp] theorem State.setPc_x (s : State) (v : Addr) : (s.setPc v).x = s.x := rfl
@[simp] theorem State.setPc_y (s : State) (v : Addr) : (s.setPc v).y = s.y := rfl
@[simp] theorem State.setPc_sp (s : State) (v : Addr) : (s.setPc v).sp = s.sp := rfl
@[simp] theorem State.setPc_pc (s : State) (v : Addr) : (s.setPc v).pc = v := rfl
@[simp] theorem State.setPc_p (s : State) (v : Addr) : (s.setPc v).p = s.p := rfl
@[simp] theorem State.setPc_cycles (s : State) (v : Addr) : (s.setPc v).cycles = s.cycles := rfl
@[simp] theorem State.setPc_stop (s : State) (v : Addr) : (s.setPc v).stop = s.stop := rfl
@[simp] theorem State.setPc_jammed (s : State) (v : Addr) : (s.setPc v).jammed = s.jammed := rfl
@[simp] theorem State.setPc_refused (s : State) (v : Addr) : (s.setPc v).refused = s.refused := rfl
@[simp] theorem State.setPc_nmiPending (s : State) (v : Addr) : (s.setPc v).nmiPending = s.nmiPending := rfl
@[simp] theorem State.setPc_dmaPending (s : State) (v : Addr) : (s.setPc v).dmaPending = s.dmaPending := rfl
@[simp] theorem State.setPc_dmaSrc (s : State) (v : Addr) : (s.setPc v).dmaSrc = s.dmaSrc := rfl
@[simp] theorem State.setPc_irqLine (s : State) (v : Addr) : (s.setPc v).irqLine = s.irqLine := rfl
@[simp] theorem State.setPc_mem (s : State) (v : Addr) : (s.setPc v).mem = s.mem := rfl
@[simp] theorem State.setPc_mapperRange (s : State) (v : Addr) : (s.setPc v).mapperRange = s.mapperRange := rfl
@[simp] theorem State.setPc_master (s : State) (v : Addr) : (s.setPc v).master = s.master := rfl
@[simp] theorem State.setPc_ppu (s : State) (v : Addr) : (s.setPc v).ppu = s.ppu := rfl
@[simp] theorem State.setPc_params (s : State) (v : Addr) : (s.setPc v).params = s.params := rfl
@[simp] theorem State.setPc_hostSteps (s : State) (v : Addr) : (s.setPc v).hostSteps = s.hostSteps := rfl
@[simp] theorem State.setPc_controllerLog (s : State) (v : Addr) : (s.setPc v).controllerLog = s.controllerLog := rfl

@[simp] theorem State.setP_a (s : State) (q : Flags) : (s.setP q).a = s.a := rfl
@[simp] theorem State.setP_x (s : State) (q : Flags) : (s.setP q).x = s.x := rfl
@[simp] theorem State.setP_y (s : State) (q : Flags) : (s.setP q).y = s.y := rfl
@[simp] theorem State.setP_sp (s : State) (q : Flags) : (s.setP q).sp = s.sp := rfl
@[simp] theorem State.setP_pc (s : State) (q : Flags) : (s.setP q).pc = s.pc := rfl
@[simp] theorem State.setP_p (s : State) (q : Flags) : (s.setP q).p = q := rfl
@[simp] theorem State.setP_cycles (s : State) (q : Flags) : (s.setP q).cycles = s.cycles := rfl
@[simp] theorem State.setP_stop (s : State) (q : Flags) : (s.setP q).stop = s.stop := rfl
@[simp] theorem State.setP_jammed (s : State) (q : Flags) : (s.setP q).jammed = s.jammed := rfl
@[simp] theorem State.setP_refused (s : State) (q : Flags) : (s.setP q).refused = s.refused := rfl
@[simp] theorem State.setP_nmiPending (s : State) (q : Flags) : (s.setP q).nmiPending = s.nmiPending := rfl
@[simp] theorem State.setP_dmaPending (s : State) (q : Flags) : (s.setP q).dmaPending = s.dmaPending := rfl
@[simp] theorem State.setP_dmaSrc (s : State) (q : Flags) : (s.setP q).dmaSrc = s.dmaSrc := rfl
@[simp] theorem State.setP_irqLine (s : State) (q : Flags) : (s.setP q).irqLine = s.irqLine := rfl
@[simp] theorem State.setP_mem (s : State) (q : Flags) : (s.setP q).mem = s.mem := rfl
@[simp] theorem State.setP_mapperRange (s : State) (q : Flags) : (s.setP q).mapperRange = s.mapperRange := rfl
@[simp] theorem State.setP_master (s : State) (q : Flags) : (s.setP q).master = s.master := rfl
@[simp] theorem State.setP_ppu (s : State) (q : Flags) : (s.setP q).ppu = s.ppu := rfl
@[simp] theorem State.setP_params (s : State) (q : Flags) : (s.setP q).params = s.params := rfl
@[simp] theorem State.setP_hostSteps (s : State) (q : Flags) : (s.setP q).hostSteps = s.hostSteps := rfl
@[simp] theorem State.setP_controllerLog (s : State) (q : Flags) : (s.setP q).controllerLog = s.controllerLog := rfl

@[simp] theorem State.setNZ_a (s : State) (v : Byte) : (s.setNZ v).a = s.a := rfl
@[simp] theorem State.setNZ_x (s : State) (v : Byte) : (s.setNZ v).x = s.x := rfl
@[simp] theorem State.setNZ_y (s : State) (v : Byte) : (s.setNZ v).y = s.y := rfl
@[simp] theorem State.setNZ_sp (s : State) (v : Byte) : (s.setNZ v).sp = s.sp := rfl
@[simp] theorem State.setNZ_pc (s : State) (v : Byte) : (s.setNZ v).pc = s.pc := rfl
@[simp] theorem State.setNZ_p (s : State) (v : Byte) : (s.setNZ v).p = s.p.setNZ v := rfl
@[simp] theorem State.setNZ_cycles (s : State) (v : Byte) : (s.setNZ v).cycles = s.cycles := rfl
@[simp] theorem State.setNZ_stop (s : State) (v : Byte) : (s.setNZ v).stop = s.stop := rfl
@[simp] theorem State.setNZ_jammed (s : State) (v : Byte) : (s.setNZ v).jammed = s.jammed := rfl
@[simp] theorem State.setNZ_refused (s : State) (v : Byte) : (s.setNZ v).refused = s.refused := rfl
@[simp] theorem State.setNZ_nmiPending (s : State) (v : Byte) : (s.setNZ v).nmiPending = s.nmiPending := rfl
@[simp] theorem State.setNZ_dmaPending (s : State) (v : Byte) : (s.setNZ v).dmaPending = s.dmaPending := rfl
@[simp] theorem State.setNZ_dmaSrc (s : State) (v : Byte) : (s.setNZ v).dmaSrc = s.dmaSrc := rfl
@[simp] theorem State.setNZ_irqLine (s : State) (v : Byte) : (s.setNZ v).irqLine = s.irqLine := rfl
@[simp] theorem State.setNZ_mem (s : State) (v : Byte) : (s.setNZ v).mem = s.mem := rfl
@[simp] theorem State.setNZ_mapperRange (s : State) (v : Byte) : (s.setNZ v).mapperRange = s.mapperRange := rfl
@[simp] theorem State.setNZ_master (s : State) (v : Byte) : (s.setNZ v).master = s.master := rfl
@[simp] theorem State.setNZ_ppu (s : State) (v : Byte) : (s.setNZ v).ppu = s.ppu := rfl
@[simp] theorem State.setNZ_params (s : State) (v : Byte) : (s.setNZ v).params = s.params := rfl
@[simp] theorem State.setNZ_hostSteps (s : State) (v : Byte) : (s.setNZ v).hostSteps = s.hostSteps := rfl
@[simp] theorem State.setNZ_controllerLog (s : State) (v : Byte) : (s.setNZ v).controllerLog = s.controllerLog := rfl

@[simp] theorem State.addCycles_a (s : State) (n : Nat) : (s.addCycles n).a = s.a := rfl
@[simp] theorem State.addCycles_x (s : State) (n : Nat) : (s.addCycles n).x = s.x := rfl
@[simp] theorem State.addCycles_y (s : State) (n : Nat) : (s.addCycles n).y = s.y := rfl
@[simp] theorem State.addCycles_sp (s : State) (n : Nat) : (s.addCycles n).sp = s.sp := rfl
@[simp] theorem State.addCycles_pc (s : State) (n : Nat) : (s.addCycles n).pc = s.pc := rfl
@[simp] theorem State.addCycles_p (s : State) (n : Nat) : (s.addCycles n).p = s.p := rfl
@[simp] theorem State.addCycles_cycles (s : State) (n : Nat) : (s.addCycles n).cycles = s.cycles + n := rfl
@[simp] theorem State.addCycles_stop (s : State) (n : Nat) : (s.addCycles n).stop = s.stop := rfl
@[simp] theorem State.addCycles_jammed (s : State) (n : Nat) : (s.addCycles n).jammed = s.jammed := rfl
@[simp] theorem State.addCycles_refused (s : State) (n : Nat) : (s.addCycles n).refused = s.refused := rfl
@[simp] theorem State.addCycles_nmiPending (s : State) (n : Nat) : (s.addCycles n).nmiPending = s.nmiPending := rfl
@[simp] theorem State.addCycles_dmaPending (s : State) (n : Nat) : (s.addCycles n).dmaPending = s.dmaPending := rfl
@[simp] theorem State.addCycles_dmaSrc (s : State) (n : Nat) : (s.addCycles n).dmaSrc = s.dmaSrc := rfl
@[simp] theorem State.addCycles_irqLine (s : State) (n : Nat) : (s.addCycles n).irqLine = s.irqLine := rfl
@[simp] theorem State.addCycles_mem (s : State) (n : Nat) : (s.addCycles n).mem = s.mem := rfl
@[simp] theorem State.addCycles_mapperRange (s : State) (n : Nat) : (s.addCycles n).mapperRange = s.mapperRange := rfl
@[simp] theorem State.addCycles_master (s : State) (n : Nat) : (s.addCycles n).master = s.master := rfl
@[simp] theorem State.addCycles_ppu (s : State) (n : Nat) : (s.addCycles n).ppu = s.ppu := rfl
@[simp] theorem State.addCycles_params (s : State) (n : Nat) : (s.addCycles n).params = s.params := rfl
@[simp] theorem State.addCycles_hostSteps (s : State) (n : Nat) : (s.addCycles n).hostSteps = s.hostSteps := rfl
@[simp] theorem State.addCycles_controllerLog (s : State) (n : Nat) : (s.addCycles n).controllerLog = s.controllerLog := rfl

@[simp] theorem Flags.setNZ_c (p : Flags) (b : Byte) : (p.setNZ b).c = p.c := rfl
@[simp] theorem Flags.setNZ_i (p : Flags) (b : Byte) : (p.setNZ b).i = p.i := rfl
@[simp] theorem Flags.setNZ_d (p : Flags) (b : Byte) : (p.setNZ b).d = p.d := rfl
@[simp] theorem Flags.setNZ_v (p : Flags) (b : Byte) : (p.setNZ b).v = p.v := rfl
@[simp] theorem Flags.setNZ_z (p : Flags) (b : Byte) : (p.setNZ b).z = (b == 0) := rfl
@[simp] theorem Flags.setNZ_n (p : Flags) (b : Byte) : (p.setNZ b).n = b.getLsbD 7 := rfl

end Sys2Proof.Machine
end

