-- ==== Sys2Proof/Laws/Words.lean ====
section
/-! SUPPORT. The byte-order helpers undo each other (spec/20_memory.md R100). -/

namespace Sys2Proof

theorem getLsbD_word16 (h l : Byte) (i : Nat) :
    (word16 h l).getLsbD i = if i < 8 then l.getLsbD i else h.getLsbD (i - 8) :=
  BitVec.getLsbD_append

theorem getLsbD_lo (w : Addr) (i : Nat) : (lo w).getLsbD i = (decide (i < 8) && w.getLsbD i) := by
  simp [lo]

theorem getLsbD_hi (w : Addr) (i : Nat) : (hi w).getLsbD i = (decide (i < 8) && w.getLsbD (8 + i)) := by
  simp [hi]

@[simp] theorem lo_word16 (h l : Byte) : lo (word16 h l) = l := by
  apply BitVec.eq_of_getLsbD_eq
  intro i hi
  rw [getLsbD_lo, getLsbD_word16, if_pos hi, decide_eq_true hi, Bool.true_and]

@[simp] theorem hi_word16 (h l : Byte) : hi (word16 h l) = h := by
  apply BitVec.eq_of_getLsbD_eq
  intro i hi
  have h8 : ¬ 8 + i < 8 := by omega
  rw [getLsbD_hi, getLsbD_word16, if_neg h8, decide_eq_true hi, Bool.true_and, Nat.add_sub_cancel_left]

@[simp] theorem word16_hi_lo (w : Addr) : word16 (hi w) (lo w) = w := by
  apply BitVec.eq_of_getLsbD_eq
  intro i h
  by_cases h8 : i < 8
  · rw [getLsbD_word16, if_pos h8, getLsbD_lo, decide_eq_true h8, Bool.true_and]
  · have h9 : i - 8 < 8 := by omega
    have h10 : 8 + (i - 8) = i := by omega
    rw [getLsbD_word16, if_neg h8, getLsbD_hi, decide_eq_true h9, Bool.true_and, h10]

end Sys2Proof
end

