-- ==== Sys2Proof/Laws/Ops.lean ====
section
/-! SUPPORT. What the bus, the stack and the instruction fetch can change, said once for each. -/

namespace Sys2Proof.Machine

/-- A bus read changes at most the PPU and the controller history (R95, R103). -/
theorem State.memRead_eq (s : State) (a : Addr) :
    (s.memRead a).2 = { s with ppu := (s.memRead a).2.ppu, controllerLog := (s.memRead a).2.controllerLog } := by
  unfold State.memRead
  split <;> rfl

@[simp] theorem State.memRead_a (s : State) (a : Addr) : (s.memRead a).2.a = s.a := by
  rw [State.memRead_eq]

@[simp] theorem State.memRead_x (s : State) (a : Addr) : (s.memRead a).2.x = s.x := by
  rw [State.memRead_eq]

@[simp] theorem State.memRead_y (s : State) (a : Addr) : (s.memRead a).2.y = s.y := by
  rw [State.memRead_eq]

@[simp] theorem State.memRead_sp (s : State) (a : Addr) : (s.memRead a).2.sp = s.sp := by
  rw [State.memRead_eq]

@[simp] theorem State.memRead_pc (s : State) (a : Addr) : (s.memRead a).2.pc = s.pc := by
  rw [State.memRead_eq]

@[simp] theorem State.memRead_p (s : State) (a : Addr) : (s.memRead a).2.p = s.p := by
  rw [State.memRead_eq]

@[simp] theorem State.memRead_cycles (s : State) (a : Addr) : (s.memRead a).2.cycles = s.cycles := by
  rw [State.memRead_eq]

@[simp] theorem State.memRead_stop (s : State) (a : Addr) : (s.memRead a).2.stop = s.stop := by
  rw [State.memRead_eq]

@[simp] theorem State.memRead_jammed (s : State) (a : Addr) : (s.memRead a).2.jammed = s.jammed := by
  rw [State.memRead_eq]

@[simp] theorem State.memRead_refused (s : State) (a : Addr) : (s.memRead a).2.refused = s.refused := by
  rw [State.memRead_eq]

@[simp] theorem State.memRead_nmiPending (s : State) (a : Addr) : (s.memRead a).2.nmiPending = s.nmiPending := by
  rw [State.memRead_eq]

@[simp] theorem State.memRead_dmaPending (s : State) (a : Addr) : (s.memRead a).2.dmaPending = s.dmaPending := by
  rw [State.memRead_eq]

@[simp] theorem State.memRead_dmaSrc (s : State) (a : Addr) : (s.memRead a).2.dmaSrc = s.dmaSrc := by
  rw [State.memRead_eq]

@[simp] theorem State.memRead_irqLine (s : State) (a : Addr) : (s.memRead a).2.irqLine = s.irqLine := by
  rw [State.memRead_eq]

@[simp] theorem State.memRead_mem (s : State) (a : Addr) : (s.memRead a).2.mem = s.mem := by
  rw [State.memRead_eq]

@[simp] theorem State.memRead_mapperRange (s : State) (a : Addr) : (s.memRead a).2.mapperRange = s.mapperRange := by
  rw [State.memRead_eq]

@[simp] theorem State.memRead_master (s : State) (a : Addr) : (s.memRead a).2.master = s.master := by
  rw [State.memRead_eq]

@[simp] theorem State.memRead_params (s : State) (a : Addr) : (s.memRead a).2.params = s.params := by
  rw [State.memRead_eq]

@[simp] theorem State.memRead_hostSteps (s : State) (a : Addr) : (s.memRead a).2.hostSteps = s.hostSteps := by
  rw [State.memRead_eq]

/-- What a bus read can do to the PPU: nothing, or a register read (R95). -/
theorem State.memRead_ppu (s : State) (a : Addr) :
    (s.memRead a).2.ppu = s.ppu ∨ ∃ n, (s.memRead a).2.ppu = (s.ppu.regRead n).2 := by
  unfold State.memRead
  split
  · exact .inl rfl
  · exact .inl rfl
  · exact .inr ⟨_, rfl⟩
  · exact .inl rfl

/-- A bus write changes at most memory, the PPU, the DMA request and the controller history (R96). -/
theorem State.memWrite_eq (s : State) (a : Addr) (v : Byte) :
    s.memWrite a v =
      { s with
        mem := (s.memWrite a v).mem, ppu := (s.memWrite a v).ppu, dmaSrc := (s.memWrite a v).dmaSrc
        dmaPending := (s.memWrite a v).dmaPending, controllerLog := (s.memWrite a v).controllerLog } := by
  unfold State.memWrite
  split <;> rfl

@[simp] theorem State.memWrite_a (s : State) (a : Addr) (v : Byte) : (s.memWrite a v).a = s.a := by
  rw [State.memWrite_eq]

@[simp] theorem State.memWrite_x (s : State) (a : Addr) (v : Byte) : (s.memWrite a v).x = s.x := by
  rw [State.memWrite_eq]

@[simp] theorem State.memWrite_y (s : State) (a : Addr) (v : Byte) : (s.memWrite a v).y = s.y := by
  rw [State.memWrite_eq]

@[simp] theorem State.memWrite_sp (s : State) (a : Addr) (v : Byte) : (s.memWrite a v).sp = s.sp := by
  rw [State.memWrite_eq]

@[simp] theorem State.memWrite_pc (s : State) (a : Addr) (v : Byte) : (s.memWrite a v).pc = s.pc := by
  rw [State.memWrite_eq]

@[simp] theorem State.memWrite_p (s : State) (a : Addr) (v : Byte) : (s.memWrite a v).p = s.p := by
  rw [State.memWrite_eq]

@[simp] theorem State.memWrite_cycles (s : State) (a : Addr) (v : Byte) : (s.memWrite a v).cycles = s.cycles := by
  rw [State.memWrite_eq]

@[simp] theorem State.memWrite_stop (s : State) (a : Addr) (v : Byte) : (s.memWrite a v).stop = s.stop := by
  rw [State.memWrite_eq]

@[simp] theorem State.memWrite_jammed (s : State) (a : Addr) (v : Byte) : (s.memWrite a v).jammed = s.jammed := by
  rw [State.memWrite_eq]

@[simp] theorem State.memWrite_refused (s : State) (a : Addr) (v : Byte) : (s.memWrite a v).refused = s.refused := by
  rw [State.memWrite_eq]

@[simp] theorem State.memWrite_nmiPending (s : State) (a : Addr) (v : Byte) : (s.memWrite a v).nmiPending = s.nmiPending := by
  rw [State.memWrite_eq]

@[simp] theorem State.memWrite_irqLine (s : State) (a : Addr) (v : Byte) : (s.memWrite a v).irqLine = s.irqLine := by
  rw [State.memWrite_eq]

@[simp] theorem State.memWrite_mapperRange (s : State) (a : Addr) (v : Byte) : (s.memWrite a v).mapperRange = s.mapperRange := by
  rw [State.memWrite_eq]

@[simp] theorem State.memWrite_master (s : State) (a : Addr) (v : Byte) : (s.memWrite a v).master = s.master := by
  rw [State.memWrite_eq]

@[simp] theorem State.memWrite_params (s : State) (a : Addr) (v : Byte) : (s.memWrite a v).params = s.params := by
  rw [State.memWrite_eq]

@[simp] theorem State.memWrite_hostSteps (s : State) (a : Addr) (v : Byte) : (s.memWrite a v).hostSteps = s.hostSteps := by
  rw [State.memWrite_eq]

/-- What a bus write can do to the PPU: nothing, or a register write (R96). -/
theorem State.memWrite_ppu (s : State) (a : Addr) (v : Byte) :
    (s.memWrite a v).ppu = s.ppu ∨ ∃ n, (s.memWrite a v).ppu = s.ppu.regWrite n v := by
  unfold State.memWrite
  split
  · exact .inl rfl
  · exact .inl rfl
  · exact .inr ⟨_, rfl⟩
  · exact .inl rfl
  · exact .inl rfl
  · exact .inl rfl

/-- What a bus write can do to memory: nothing, or one cell at the redirected address (R96). -/
theorem State.memWrite_mem (s : State) (a : Addr) (v : Byte) :
    (s.memWrite a v).mem = s.mem ∨ (s.memWrite a v).mem = s.mem.write (redirect a).toNat v := by
  unfold State.memWrite
  split
  · exact .inr rfl
  · exact .inr rfl
  · exact .inl rfl
  · exact .inl rfl
  · exact .inl rfl
  · exact .inl rfl

/-- Every bus write keeps memory in canonical form. -/
theorem State.memWrite_mem_wf (s : State) (a : Addr) (v : Byte) (h : s.mem.wf 0x10000 = true) :
    (s.memWrite a v).mem.wf 0x10000 = true := by
  rcases s.memWrite_mem a v with e | e
  · rw [e]; exact h
  · rw [e]; exact Mem.wf_write v (redirect a).isLt h

/-- The stack page is not mirrored (R34, R90). -/
@[simp] theorem redirect_stackPage (b : Byte) : redirect (word16 1#8 b) = word16 1#8 b := by
  revert b; decide

/-- The stack page is RAM (R34, R91). -/
@[simp] theorem readClass_stackPage (b : Byte) : readClass (word16 1#8 b) = .ram := by
  revert b; decide

@[simp] theorem writeClass_stackPage (g : AddrRange) (b : Byte) : writeClass g (word16 1#8 b) = .ram := by
  have h : word16 1#8 b ≤ 0x07FF := by revert b; decide
  rw [writeClass, if_pos h]

/-- Page zero is not mirrored (R90). -/
@[simp] theorem redirect_zeroPage (b : Byte) : redirect (zext16 b) = zext16 b := by
  revert b; decide

/-- Page zero is RAM (R91). -/
@[simp] theorem readClass_zeroPage (b : Byte) : readClass (zext16 b) = .ram := by
  revert b; decide

/-- A push in one record: the cell SP designates, and SP - 1 (R40). -/
theorem State.push_eq (s : State) (v : Byte) :
    s.push v = { s with mem := s.mem.write (word16 1#8 s.sp).toNat v, sp := s.sp - 1 } := by
  simp [State.push, State.memWrite, State.stackCell]

/-- A pull in one record: the cell at SP + 1, and SP + 1 (R41). -/
theorem State.pull_eq (s : State) :
    s.pull = (s.mem.read (word16 1#8 (s.sp + 1)).toNat, { s with sp := s.sp + 1 }) := by
  simp [State.pull, State.memRead, State.stackCell]

/-- Reading a zero-page pointer has no side effect (R171, R172). -/
theorem State.readPair_zeroPage (s : State) (b c : Byte) :
    s.readPair (zext16 b) (zext16 c) = (word16 (s.mem.read (zext16 c).toNat) (s.mem.read (zext16 b).toNat), s) := by
  simp [State.readPair, State.memRead]

end Sys2Proof.Machine
end

