-- ==== Sys2Proof/Laws/Entry.lean ====
section
/-! SUPPORT. Sixteen-bit stack accesses, taking an interrupt, returning from one and the fetch, each as one record: what it
changes, and that it changes nothing else. -/

namespace Sys2Proof.Machine

/-- The stack cell's index in memory (R34). -/
theorem word16_stackPage_toNat (b : Byte) : (word16 1#8 b).toNat = 0x100 + b.toNat := by
  revert b; decide

/-- A 16-bit push in one record (R42). -/
theorem State.push16_eq (s : State) (w : Addr) :
    s.push16 w =
      { s with
        mem := (s.mem.write (word16 1#8 s.sp).toNat (hi w)).write (word16 1#8 (s.sp - 1)).toNat (lo w)
        sp := s.sp - 2 } := by
  have h : s.sp - 1#8 - 1#8 = s.sp - 2#8 := by bv_omega
  simp [State.push16, State.push_eq, h]

/-- A 16-bit pull in one record (R42). -/
theorem State.pull16_eq (s : State) :
    s.pull16 =
      (word16 (s.mem.read (word16 1#8 (s.sp + 2)).toNat) (s.mem.read (word16 1#8 (s.sp + 1)).toNat),
        { s with sp := s.sp + 2 }) := by
  have h : s.sp + 1#8 + 1#8 = s.sp + 2#8 := by bv_omega
  simp [State.pull16, State.pull_eq, h]

/-- Reading a vector has no side effect (R105). -/
theorem State.read16_vector (s : State) (v : Addr) (hv : v = nmiVector ∨ v = resetVector ∨ v = irqVector) :
    s.read16 v = (word16 (s.mem.read (v.toNat + 1)) (s.mem.read v.toNat), s) := by
  rcases hv with rfl | rfl | rfl <;>
    simp [State.read16, State.readPair, State.memRead, nmiVector, resetVector, irqVector, redirect, readClass]

/-- Taking an interrupt in one record (R500, R503). -/
theorem State.enterInterrupt_eq (s : State) (ret : Addr) (b4 : Bool) (v : Addr) (hv : v = nmiVector ∨ v = irqVector) :
    s.enterInterrupt ret b4 v =
      { s with
        mem :=
          ((s.mem.write (word16 1#8 s.sp).toNat (hi ret)).write (word16 1#8 (s.sp - 1)).toNat (lo ret)).write
            (word16 1#8 (s.sp - 2)).toNat (s.p.pushedByte b4)
        sp := s.sp - 3, p := { s.p with i := true }
        pc := word16 (s.mem.read (v.toNat + 1)) (s.mem.read v.toNat) } := by
  have h : s.sp - 2#8 - 1#8 = s.sp - 3#8 := by bv_omega
  have hi : ∀ b : Byte, (word16 1#8 b).toNat < 0x200 := fun b => by
    rw [word16_stackPage_toNat]; have := b.isLt; omega
  have hv' : v = nmiVector ∨ v = resetVector ∨ v = irqVector := by tauto
  have keep : ∀ (m : Mem) (x y z b c d : Byte) (n : Nat), 0x200 ≤ n →
      (((m.write (word16 1#8 x).toNat b).write (word16 1#8 y).toNat c).write (word16 1#8 z).toNat d).read n = m.read n :=
    fun m x y z b c d n hn => by
      have := hi x; have := hi y; have := hi z
      rw [Mem.read_write_other _ _ (by omega), Mem.read_write_other _ _ (by omega), Mem.read_write_other _ _ (by omega)]
  have hn : 0x200 ≤ v.toNat := by rcases hv with rfl | rfl <;> decide
  simp only [State.enterInterrupt, State.push16_eq, State.push_eq, State.read16_vector _ v hv', State.setP, State.setPc]
  rw [keep _ _ _ _ _ _ _ _ hn, keep _ _ _ _ _ _ _ _ (by omega)]
  simp [h]

/-- Returning from an interrupt in one record (R334). -/
theorem State.returnFromInterrupt_eq (s : State) :
    s.returnFromInterrupt =
      { s with
        p := Flags.ofPulledByte (s.mem.read (word16 1#8 (s.sp + 1)).toNat)
        pc := word16 (s.mem.read (word16 1#8 (s.sp + 3)).toNat) (s.mem.read (word16 1#8 (s.sp + 2)).toNat)
        sp := s.sp + 3 } := by
  have h : s.sp + 1#8 + 2#8 = s.sp + 3#8 := by bv_omega
  have h' : s.sp + 1#8 + 1#8 = s.sp + 2#8 := by bv_omega
  simp [State.returnFromInterrupt, State.pull_eq, State.pull16_eq, State.setP, State.setPc, h, h']

/-- A pulled status byte gives back the flags that were pushed, whatever bit 4 was (R37, R38). -/
@[simp] theorem Flags.ofPulledByte_pushedByte (p : Flags) (b4 : Bool) : Flags.ofPulledByte (p.pushedByte b4) = p := by
  obtain ⟨c, z, i, d, v, n⟩ := p
  revert b4 c z i d v n
  decide

/-- A fetch of one byte changes at most PC and what a bus read changes (R150). -/
theorem State.fetch8_eq (s : State) :
    s.fetch8.2 =
      { s with pc := s.pc + 1, ppu := s.fetch8.2.ppu, controllerLog := s.fetch8.2.controllerLog } := by
  simp only [State.fetch8, State.setPc]
  rw [State.memRead_eq]

/-- A fetch of n bytes moves PC by n and changes nothing else but what bus reads change (R150). -/
theorem State.fetchBytes_eq (n : Nat) (s : State) :
    (State.fetchBytes n s).2 =
      { s with
        pc := s.pc + BitVec.ofNat 16 n, ppu := (State.fetchBytes n s).2.ppu
        controllerLog := (State.fetchBytes n s).2.controllerLog } := by
  induction n generalizing s with
  | zero => simp [State.fetchBytes]
  | succ n ih =>
    simp only [State.fetchBytes]
    rw [ih, State.fetch8_eq]
    have h : s.pc + 1#16 + BitVec.ofNat 16 n = s.pc + BitVec.ofNat 16 (n + 1) := by
      rw [BitVec.add_assoc, ← BitVec.ofNat_add, Nat.add_comm]
    simp [h]

theorem State.fetchBytes_length (n : Nat) (s : State) : (State.fetchBytes n s).1.length = n := by
  induction n generalizing s with
  | zero => rfl
  | succ n ih => simp [State.fetchBytes, ih]

/-- The fetch of an instruction leaves PC after it and changes nothing else but what bus reads change (R150). -/
theorem State.fetchInstr_eq (s : State) :
    s.fetchInstr.2 =
      { s with
        pc := s.pc + BitVec.ofNat 16 (opRow s.fetch8.1).length, ppu := s.fetchInstr.2.ppu
        controllerLog := s.fetchInstr.2.controllerLog } := by
  simp only [State.fetchInstr]
  rw [State.fetchBytes_eq, State.fetch8_eq]
  simp [OpRow.length, BitVec.ofNat_add, BitVec.add_assoc]

/-- One byte of the DMA copy changes OAM, and beside it only what a bus read changes (R507). -/
theorem State.dmaByte_eq (i : Nat) (s : State) :
    s.dmaByte i =
      { s with
        controllerLog := (s.memRead (s.dmaSrc + BitVec.ofNat 16 i)).2.controllerLog
        ppu :=
          { (s.memRead (s.dmaSrc + BitVec.ofNat 16 i)).2.ppu with
            oam := s.ppu.oam.write (s.ppu.oamAddr + BitVec.ofNat 8 i).toNat
              (s.memRead (s.dmaSrc + BitVec.ofNat 16 i)).1 } } := by
  have h := State.memRead_ppu s (s.dmaSrc + BitVec.ofNat 16 i)
  simp only [State.dmaByte]
  rw [State.memRead_eq]
  rcases h with h | ⟨n, h⟩ <;> simp [h]

@[simp] theorem State.dmaCopy_zero (s : State) : State.dmaCopy 0 s = s := rfl

theorem State.dmaCopy_succ (n : Nat) (s : State) : State.dmaCopy (n + 1) s = (State.dmaCopy n s).dmaByte n := rfl

/-- The DMA copy changes OAM, and beside it only what bus reads change (R507). -/
theorem State.dmaCopy_eq (n : Nat) (s : State) :
    State.dmaCopy n s =
      { s with
        controllerLog := (State.dmaCopy n s).controllerLog
        ppu :=
          { s.ppu with
            oam := (State.dmaCopy n s).ppu.oam, vblank := (State.dmaCopy n s).ppu.vblank
            w := (State.dmaCopy n s).ppu.w, readBuffer := (State.dmaCopy n s).ppu.readBuffer
            v := (State.dmaCopy n s).ppu.v } } := by
  induction n with
  | zero => rfl
  | succ n ih =>
    rw [State.dmaCopy_succ, State.dmaByte_eq]
    generalize State.dmaCopy n s = u at ih ⊢
    have hp : ∀ a, ∃ v w, (u.memRead a).2.ppu =
        { u.ppu with vblank := v, w := w, readBuffer := (u.memRead a).2.ppu.readBuffer, v := (u.memRead a).2.ppu.v } := by
      intro a
      rcases State.memRead_ppu u a with h | ⟨k, h⟩
      · exact ⟨u.ppu.vblank, u.ppu.w, by rw [h]⟩
      · exact ⟨(u.ppu.regRead k).2.vblank, (u.ppu.regRead k).2.w, by rw [h, ← Ppu.regRead_eq]⟩
    obtain ⟨v, w, hp⟩ := hp (u.dmaSrc + BitVec.ofNat 16 n)
    rw [hp, ih]

/-- The DMA transfer is the copy of 256 bytes; then the request is clear and the cost added (R507, R508). -/
theorem State.dmaTransfer_eq (s : State) :
    s.dmaTransfer =
      { s with
        dmaPending := false, cycles := s.cycles + s.params.dmaCycles
        ppu := s.dmaTransfer.ppu, controllerLog := s.dmaTransfer.controllerLog } := by
  simp only [State.dmaTransfer, State.addCycles]
  rw [State.dmaCopy_eq]

end Sys2Proof.Machine
end

