-- ==== Sys2Proof/Laws/Operands.lean ====
section
/-! SUPPORT. What resolving, reading and storing an operand can change, said once for each, and what an instruction's frame
answers. -/

namespace Sys2Proof.Machine

/-- Reading a pair of bytes changes at most the PPU and the controller history (R16). -/
theorem State.readPair_eq (s : State) (a b : Addr) :
    (s.readPair a b).2 =
      { s with ppu := (s.readPair a b).2.ppu, controllerLog := (s.readPair a b).2.controllerLog } := by
  show ((s.memRead a).2.memRead b).2 = { s with
    ppu := ((s.memRead a).2.memRead b).2.ppu, controllerLog := ((s.memRead a).2.memRead b).2.controllerLog }
  rw [State.memRead_eq (s.memRead a).2 b, State.memRead_eq s a]

/-- A pointer in page zero is read without a side effect (R171, R172). -/
@[simp] theorem State.zeroPagePointer_state (s : State) (z : Byte) : (s.zeroPagePointer z).2 = s := by
  rw [State.zeroPagePointer, State.readPair_zeroPage]

/-- Only JMP indirect's pointer reads can have a side effect: every other mode resolves without one (R160–R173). -/
theorem resolve_state (o : Operand) (s : State) (h : o.mode ≠ .indirect) : (resolve o s).2 = s := by
  cases o <;> simp_all [resolve, Operand.mode]

/-- Resolving changes at most the PPU and the controller history (R160). -/
theorem resolve_eq (o : Operand) (s : State) :
    (resolve o s).2 = { s with ppu := (resolve o s).2.ppu, controllerLog := (resolve o s).2.controllerLog } := by
  by_cases h : o.mode = .indirect
  · cases o <;> first | exact State.readPair_eq s _ _ | simp [Operand.mode] at h
  · rw [resolve_state o s h]

@[simp] theorem resolve_a (o : Operand) (s : State) : (resolve o s).2.a = s.a := by
  rw [resolve_eq]

@[simp] theorem resolve_x (o : Operand) (s : State) : (resolve o s).2.x = s.x := by
  rw [resolve_eq]

@[simp] theorem resolve_y (o : Operand) (s : State) : (resolve o s).2.y = s.y := by
  rw [resolve_eq]

@[simp] theorem resolve_sp (o : Operand) (s : State) : (resolve o s).2.sp = s.sp := by
  rw [resolve_eq]

@[simp] theorem resolve_pc (o : Operand) (s : State) : (resolve o s).2.pc = s.pc := by
  rw [resolve_eq]

@[simp] theorem resolve_p (o : Operand) (s : State) : (resolve o s).2.p = s.p := by
  rw [resolve_eq]

@[simp] theorem resolve_cycles (o : Operand) (s : State) : (resolve o s).2.cycles = s.cycles := by
  rw [resolve_eq]

@[simp] theorem resolve_stop (o : Operand) (s : State) : (resolve o s).2.stop = s.stop := by
  rw [resolve_eq]

@[simp] theorem resolve_jammed (o : Operand) (s : State) : (resolve o s).2.jammed = s.jammed := by
  rw [resolve_eq]

@[simp] theorem resolve_refused (o : Operand) (s : State) : (resolve o s).2.refused = s.refused := by
  rw [resolve_eq]

@[simp] theorem resolve_nmiPending (o : Operand) (s : State) : (resolve o s).2.nmiPending = s.nmiPending := by
  rw [resolve_eq]

@[simp] theorem resolve_irqLine (o : Operand) (s : State) : (resolve o s).2.irqLine = s.irqLine := by
  rw [resolve_eq]

@[simp] theorem resolve_mapperRange (o : Operand) (s : State) : (resolve o s).2.mapperRange = s.mapperRange := by
  rw [resolve_eq]

@[simp] theorem resolve_master (o : Operand) (s : State) : (resolve o s).2.master = s.master := by
  rw [resolve_eq]

@[simp] theorem resolve_params (o : Operand) (s : State) : (resolve o s).2.params = s.params := by
  rw [resolve_eq]

@[simp] theorem resolve_hostSteps (o : Operand) (s : State) : (resolve o s).2.hostSteps = s.hostSteps := by
  rw [resolve_eq]

@[simp] theorem resolve_mem (o : Operand) (s : State) : (resolve o s).2.mem = s.mem := by
  rw [resolve_eq]

@[simp] theorem resolve_dmaPending (o : Operand) (s : State) : (resolve o s).2.dmaPending = s.dmaPending := by
  rw [resolve_eq]

@[simp] theorem resolve_dmaSrc (o : Operand) (s : State) : (resolve o s).2.dmaSrc = s.dmaSrc := by
  rw [resolve_eq]

/-- A page crossing is met by the three indexed modes only (R161–R173). -/
theorem resolve_cross (o : Operand) (s : State) (h : (resolve o s).1.cross = true) :
    o.mode = .absoluteX ∨ o.mode = .absoluteY ∨ o.mode = .indirectIndexed := by
  cases o <;> simp_all [resolve, Operand.mode]

/-- Reading an operand changes at most the PPU and the controller history (R17). -/
theorem State.operand_eq (s : State) (d : Descriptor) :
    (s.operand d).2 = { s with ppu := (s.operand d).2.ppu, controllerLog := (s.operand d).2.controllerLog } := by
  cases d with
  | acc => rfl
  | imm k => rfl
  | addr a => exact s.memRead_eq a

@[simp] theorem State.operand_a (s : State) (d : Descriptor) : (s.operand d).2.a = s.a := by
  rw [State.operand_eq]

@[simp] theorem State.operand_x (s : State) (d : Descriptor) : (s.operand d).2.x = s.x := by
  rw [State.operand_eq]

@[simp] theorem State.operand_y (s : State) (d : Descriptor) : (s.operand d).2.y = s.y := by
  rw [State.operand_eq]

@[simp] theorem State.operand_sp (s : State) (d : Descriptor) : (s.operand d).2.sp = s.sp := by
  rw [State.operand_eq]

@[simp] theorem State.operand_pc (s : State) (d : Descriptor) : (s.operand d).2.pc = s.pc := by
  rw [State.operand_eq]

@[simp] theorem State.operand_p (s : State) (d : Descriptor) : (s.operand d).2.p = s.p := by
  rw [State.operand_eq]

@[simp] theorem State.operand_cycles (s : State) (d : Descriptor) : (s.operand d).2.cycles = s.cycles := by
  rw [State.operand_eq]

@[simp] theorem State.operand_stop (s : State) (d : Descriptor) : (s.operand d).2.stop = s.stop := by
  rw [State.operand_eq]

@[simp] theorem State.operand_jammed (s : State) (d : Descriptor) : (s.operand d).2.jammed = s.jammed := by
  rw [State.operand_eq]

@[simp] theorem State.operand_refused (s : State) (d : Descriptor) : (s.operand d).2.refused = s.refused := by
  rw [State.operand_eq]

@[simp] theorem State.operand_nmiPending (s : State) (d : Descriptor) : (s.operand d).2.nmiPending = s.nmiPending := by
  rw [State.operand_eq]

@[simp] theorem State.operand_irqLine (s : State) (d : Descriptor) : (s.operand d).2.irqLine = s.irqLine := by
  rw [State.operand_eq]

@[simp] theorem State.operand_mapperRange (s : State) (d : Descriptor) : (s.operand d).2.mapperRange = s.mapperRange := by
  rw [State.operand_eq]

@[simp] theorem State.operand_master (s : State) (d : Descriptor) : (s.operand d).2.master = s.master := by
  rw [State.operand_eq]

@[simp] theorem State.operand_params (s : State) (d : Descriptor) : (s.operand d).2.params = s.params := by
  rw [State.operand_eq]

@[simp] theorem State.operand_hostSteps (s : State) (d : Descriptor) : (s.operand d).2.hostSteps = s.hostSteps := by
  rw [State.operand_eq]

@[simp] theorem State.operand_mem (s : State) (d : Descriptor) : (s.operand d).2.mem = s.mem := by
  rw [State.operand_eq]

@[simp] theorem State.operand_dmaPending (s : State) (d : Descriptor) : (s.operand d).2.dmaPending = s.dmaPending := by
  rw [State.operand_eq]

@[simp] theorem State.operand_dmaSrc (s : State) (d : Descriptor) : (s.operand d).2.dmaSrc = s.dmaSrc := by
  rw [State.operand_eq]

/-- A store changes at most A and what a bus write changes (R17). -/
theorem State.store_eq (s : State) (d : Descriptor) (v : Byte) :
    s.store d v =
      { s with
        a := (s.store d v).a, mem := (s.store d v).mem, ppu := (s.store d v).ppu, dmaSrc := (s.store d v).dmaSrc
        dmaPending := (s.store d v).dmaPending, controllerLog := (s.store d v).controllerLog } := by
  cases d with
  | acc => rfl
  | imm k => rfl
  | addr a =>
    have h := s.memWrite_eq a v
    simp only [State.store]
    rw [h]

@[simp] theorem State.store_x (s : State) (d : Descriptor) (v : Byte) : (s.store d v).x = s.x := by
  rw [State.store_eq]

@[simp] theorem State.store_y (s : State) (d : Descriptor) (v : Byte) : (s.store d v).y = s.y := by
  rw [State.store_eq]

@[simp] theorem State.store_sp (s : State) (d : Descriptor) (v : Byte) : (s.store d v).sp = s.sp := by
  rw [State.store_eq]

@[simp] theorem State.store_pc (s : State) (d : Descriptor) (v : Byte) : (s.store d v).pc = s.pc := by
  rw [State.store_eq]

@[simp] theorem State.store_p (s : State) (d : Descriptor) (v : Byte) : (s.store d v).p = s.p := by
  rw [State.store_eq]

@[simp] theorem State.store_cycles (s : State) (d : Descriptor) (v : Byte) : (s.store d v).cycles = s.cycles := by
  rw [State.store_eq]

@[simp] theorem State.store_stop (s : State) (d : Descriptor) (v : Byte) : (s.store d v).stop = s.stop := by
  rw [State.store_eq]

@[simp] theorem State.store_jammed (s : State) (d : Descriptor) (v : Byte) : (s.store d v).jammed = s.jammed := by
  rw [State.store_eq]

@[simp] theorem State.store_refused (s : State) (d : Descriptor) (v : Byte) : (s.store d v).refused = s.refused := by
  rw [State.store_eq]

@[simp] theorem State.store_nmiPending (s : State) (d : Descriptor) (v : Byte) : (s.store d v).nmiPending = s.nmiPending := by
  rw [State.store_eq]

@[simp] theorem State.store_irqLine (s : State) (d : Descriptor) (v : Byte) : (s.store d v).irqLine = s.irqLine := by
  rw [State.store_eq]

@[simp] theorem State.store_mapperRange (s : State) (d : Descriptor) (v : Byte) : (s.store d v).mapperRange = s.mapperRange := by
  rw [State.store_eq]

@[simp] theorem State.store_master (s : State) (d : Descriptor) (v : Byte) : (s.store d v).master = s.master := by
  rw [State.store_eq]

@[simp] theorem State.store_params (s : State) (d : Descriptor) (v : Byte) : (s.store d v).params = s.params := by
  rw [State.store_eq]

@[simp] theorem State.store_hostSteps (s : State) (d : Descriptor) (v : Byte) : (s.store d v).hostSteps = s.hostSteps := by
  rw [State.store_eq]

@[simp] theorem State.operand_imm (s : State) (k : Byte) : s.operand (.imm k) = (k, s) := rfl

@[simp] theorem State.operand_acc (s : State) : s.operand .acc = (s.a, s) := rfl

@[simp] theorem State.operand_addr (s : State) (a : Addr) : s.operand (.addr a) = s.memRead a := rfl

@[simp] theorem State.store_acc (s : State) (v : Byte) : s.store .acc v = s.setA v := rfl

@[simp] theorem State.store_addr (s : State) (a : Addr) (v : Byte) : s.store (.addr a) v = s.memWrite a v := rfl

@[simp] theorem indexed_desc (base : Addr) (index : Byte) : (indexed base index).desc = .addr (base + zext16 index) := rfl

/-- The flags play no part in a bus read (R95). -/
theorem State.memRead_setP (s : State) (p : Flags) (a : Addr) :
    (s.setP p).memRead a = ((s.memRead a).1, (s.memRead a).2.setP p) := by
  unfold State.memRead
  cases readClass (redirect a) <;> rfl

/-- The flags play no part in a bus write (R96). -/
theorem State.memWrite_setP (s : State) (p : Flags) (a : Addr) (v : Byte) :
    (s.setP p).memWrite a v = (s.memWrite a v).setP p := by
  unfold State.memWrite
  cases h : writeClass s.mapperRange (redirect a) <;> simp only [State.setP, h]

/-- The flags play no part in a store (R17). -/
theorem State.store_setP (s : State) (p : Flags) (d : Descriptor) (v : Byte) :
    (s.setP p).store d v = (s.store d v).setP p := by
  cases d with
  | acc => rfl
  | imm k => rfl
  | addr a => exact s.memWrite_setP p a v

/-- The flags play no part in reading an operand (R17). -/
theorem State.operand_setP (s : State) (p : Flags) (d : Descriptor) :
    (s.setP p).operand d = ((s.operand d).1, (s.operand d).2.setP p) := by
  cases d with
  | acc => rfl
  | imm k => rfl
  | addr a => exact s.memRead_setP p a

/-- The flags play no part in resolving (R160). -/
theorem resolve_setP (o : Operand) (s : State) (p : Flags) :
    resolve o (s.setP p) = ((resolve o s).1, (resolve o s).2.setP p) := by
  cases o <;>
    simp [resolve, State.jumpPointer, State.zeroPagePointer, State.readPair, State.memRead_setP]

/-- A store writes A through the accumulator reference only (R17). -/
theorem State.store_a (s : State) (d : Descriptor) (v : Byte) (h : d ≠ .acc) : (s.store d v).a = s.a := by
  cases d <;> simp_all [State.store]

/-- A store changes no cell of memory but the one its address names (R17, R96). -/
theorem State.store_mem_read (s : State) (d : Descriptor) (v : Byte) (c : Nat)
    (h : ∀ a, d = .addr a → c ≠ (redirect a).toNat) : (s.store d v).mem.read c = s.mem.read c := by
  cases d with
  | acc => rfl
  | imm k => rfl
  | addr a =>
    rcases s.memWrite_mem a v with e | e
    · rw [State.store, e]
    · rw [State.store, e, Mem.read_write_other s.mem v (h a rfl)]

/-- An instruction's frame answers the handler's state with the cycles added (R150). -/
theorem runInstr_next (o : Operand) (base : Nat) (penalty : Bool) (h : Handler) (s : State) :
    runInstr o base penalty h s =
      .next ((h (resolve o s).1 (resolve o s).2).addCycles
        (base + if penalty && (resolve o s).1.cross then 1 else 0)) := rfl

end Sys2Proof.Machine
end

