-- ==== Sys2Proof/Laws/Alu.lean ====
section
/-! SUPPORT. What the operations shared by several handlers can change, said once for each. -/

namespace Sys2Proof.Machine

/-- The adder leaves I and D alone (R260, R281). -/
@[simp] theorem addCore_i (a m : Byte) (c : Bool) (p : Flags) : (addCore a m c p).2.i = p.i := rfl

@[simp] theorem addCore_d (a m : Byte) (c : Bool) (p : Flags) : (addCore a m c p).2.d = p.d := rfl

/-- Adding to A changes A and the flags (R260). -/
theorem State.addToA_eq (s : State) (m : Byte) :
    s.addToA m = { s with a := (addCore s.a m s.p.c s.p).1, p := (addCore s.a m s.p.c s.p).2 } := rfl

/-- A shift of an operand is its read, then C, then its store (R277–R280). -/
theorem State.shiftOperand_state (s : State) (d : Descriptor) (f : Byte → Flags → Byte × Flags) :
    (s.shiftOperand d f).2 =
      ((s.operand d).2.store d (s.shiftOperand d f).1).setP (f (s.operand d).1 s.p).2 := by
  simp only [State.shiftOperand]
  rw [State.store_setP, State.operand_p]

/-- A branch changes PC and the cycle counter, to what its condition says (R335, R344). -/
theorem branch_eq (taken : Bool) (r : Resolved) (s : State) :
    branch taken r s =
      { s with
        pc := if taken then s.pc + sext16 (lo r.desc.value) else s.pc
        cycles := s.cycles + if taken then
          branchExtra s.params.branchPenalty s.pc (s.pc + sext16 (lo r.desc.value)) else 0 } := by
  cases taken <;> rfl

/-- An unstable store does what its rule says, or sets `refused` and nothing else (R430). -/
theorem State.underUnstablePolicy_cases (s common : State) :
    (s.params.unstableStore = .common ∧ s.underUnstablePolicy common = common) ∨
      (s.params.unstableStore = .refuse ∧ s.underUnstablePolicy common = { s with refused := true }) := by
  unfold State.underUnstablePolicy
  cases h : s.params.unstableStore
  · exact .inl ⟨rfl, rfl⟩
  · exact .inr ⟨rfl, rfl⟩

/-- JAM sets `jammed`, or adds 2 cycles (R440). -/
theorem State.jam_cases (s : State) :
    (s.params.jamPolicy = .halt ∧ s.jam = { s with jammed := true }) ∨
      (s.params.jamPolicy = .nop ∧ s.jam = s.addCycles 2) := by
  unfold State.jam
  cases h : s.params.jamPolicy
  · exact .inl ⟨rfl, rfl⟩
  · exact .inr ⟨rfl, rfl⟩

end Sys2Proof.Machine
end

