-- ==== Sys2Proof/Laws/Device.lean ====
section
/-! SUPPORT. Which fields of the PPU the bus, the resolver and the operand accesses leave alone. -/

namespace Sys2Proof.Machine

@[simp] theorem State.memRead_ppu_vram (s : State) (a : Addr) : (s.memRead a).2.ppu.vram = s.ppu.vram := by
  rcases s.memRead_ppu a with h | ⟨n, h⟩ <;> simp [h]

@[simp] theorem State.memRead_ppu_oam (s : State) (a : Addr) : (s.memRead a).2.ppu.oam = s.ppu.oam := by
  rcases s.memRead_ppu a with h | ⟨n, h⟩ <;> simp [h]

@[simp] theorem State.memRead_ppu_ctrl (s : State) (a : Addr) : (s.memRead a).2.ppu.ctrl = s.ppu.ctrl := by
  rcases s.memRead_ppu a with h | ⟨n, h⟩ <;> simp [h]

@[simp] theorem State.memRead_ppu_mask (s : State) (a : Addr) : (s.memRead a).2.ppu.mask = s.ppu.mask := by
  rcases s.memRead_ppu a with h | ⟨n, h⟩ <;> simp [h]

@[simp] theorem State.memRead_ppu_sprite0Hit (s : State) (a : Addr) : (s.memRead a).2.ppu.sprite0Hit = s.ppu.sprite0Hit := by
  rcases s.memRead_ppu a with h | ⟨n, h⟩ <;> simp [h]

@[simp] theorem State.memRead_ppu_spriteOverflow (s : State) (a : Addr) : (s.memRead a).2.ppu.spriteOverflow = s.ppu.spriteOverflow := by
  rcases s.memRead_ppu a with h | ⟨n, h⟩ <;> simp [h]

@[simp] theorem State.memRead_ppu_oamAddr (s : State) (a : Addr) : (s.memRead a).2.ppu.oamAddr = s.ppu.oamAddr := by
  rcases s.memRead_ppu a with h | ⟨n, h⟩ <;> simp [h]

@[simp] theorem State.memRead_ppu_ioLatch (s : State) (a : Addr) : (s.memRead a).2.ppu.ioLatch = s.ppu.ioLatch := by
  rcases s.memRead_ppu a with h | ⟨n, h⟩ <;> simp [h]

@[simp] theorem State.memRead_ppu_t (s : State) (a : Addr) : (s.memRead a).2.ppu.t = s.ppu.t := by
  rcases s.memRead_ppu a with h | ⟨n, h⟩ <;> simp [h]

@[simp] theorem State.memRead_ppu_x (s : State) (a : Addr) : (s.memRead a).2.ppu.x = s.ppu.x := by
  rcases s.memRead_ppu a with h | ⟨n, h⟩ <;> simp [h]

@[simp] theorem State.memRead_ppu_dot (s : State) (a : Addr) : (s.memRead a).2.ppu.dot = s.ppu.dot := by
  rcases s.memRead_ppu a with h | ⟨n, h⟩ <;> simp [h]

@[simp] theorem State.memRead_ppu_scanline (s : State) (a : Addr) : (s.memRead a).2.ppu.scanline = s.ppu.scanline := by
  rcases s.memRead_ppu a with h | ⟨n, h⟩ <;> simp [h]

@[simp] theorem State.memRead_ppu_frame (s : State) (a : Addr) : (s.memRead a).2.ppu.frame = s.ppu.frame := by
  rcases s.memRead_ppu a with h | ⟨n, h⟩ <;> simp [h]

@[simp] theorem State.memRead_ppu_done (s : State) (a : Addr) : (s.memRead a).2.ppu.done = s.ppu.done := by
  rcases s.memRead_ppu a with h | ⟨n, h⟩ <;> simp [h]

@[simp] theorem State.memRead_ppu_mirroring (s : State) (a : Addr) : (s.memRead a).2.ppu.mirroring = s.ppu.mirroring := by
  rcases s.memRead_ppu a with h | ⟨n, h⟩ <;> simp [h]

@[simp] theorem State.operand_ppu_vram (s : State) (d : Descriptor) : (s.operand d).2.ppu.vram = s.ppu.vram := by
  cases d <;> simp

@[simp] theorem State.operand_ppu_oam (s : State) (d : Descriptor) : (s.operand d).2.ppu.oam = s.ppu.oam := by
  cases d <;> simp

@[simp] theorem State.operand_ppu_ctrl (s : State) (d : Descriptor) : (s.operand d).2.ppu.ctrl = s.ppu.ctrl := by
  cases d <;> simp

@[simp] theorem State.operand_ppu_mask (s : State) (d : Descriptor) : (s.operand d).2.ppu.mask = s.ppu.mask := by
  cases d <;> simp

@[simp] theorem State.operand_ppu_sprite0Hit (s : State) (d : Descriptor) : (s.operand d).2.ppu.sprite0Hit = s.ppu.sprite0Hit := by
  cases d <;> simp

@[simp] theorem State.operand_ppu_spriteOverflow (s : State) (d : Descriptor) : (s.operand d).2.ppu.spriteOverflow = s.ppu.spriteOverflow := by
  cases d <;> simp

@[simp] theorem State.operand_ppu_oamAddr (s : State) (d : Descriptor) : (s.operand d).2.ppu.oamAddr = s.ppu.oamAddr := by
  cases d <;> simp

@[simp] theorem State.operand_ppu_ioLatch (s : State) (d : Descriptor) : (s.operand d).2.ppu.ioLatch = s.ppu.ioLatch := by
  cases d <;> simp

@[simp] theorem State.operand_ppu_t (s : State) (d : Descriptor) : (s.operand d).2.ppu.t = s.ppu.t := by
  cases d <;> simp

@[simp] theorem State.operand_ppu_x (s : State) (d : Descriptor) : (s.operand d).2.ppu.x = s.ppu.x := by
  cases d <;> simp

@[simp] theorem State.operand_ppu_dot (s : State) (d : Descriptor) : (s.operand d).2.ppu.dot = s.ppu.dot := by
  cases d <;> simp

@[simp] theorem State.operand_ppu_scanline (s : State) (d : Descriptor) : (s.operand d).2.ppu.scanline = s.ppu.scanline := by
  cases d <;> simp

@[simp] theorem State.operand_ppu_frame (s : State) (d : Descriptor) : (s.operand d).2.ppu.frame = s.ppu.frame := by
  cases d <;> simp

@[simp] theorem State.operand_ppu_done (s : State) (d : Descriptor) : (s.operand d).2.ppu.done = s.ppu.done := by
  cases d <;> simp

@[simp] theorem State.operand_ppu_mirroring (s : State) (d : Descriptor) : (s.operand d).2.ppu.mirroring = s.ppu.mirroring := by
  cases d <;> simp

@[simp] theorem resolve_ppu_vram (o : Operand) (s : State) : (resolve o s).2.ppu.vram = s.ppu.vram := by
  cases o <;> simp [resolve, State.jumpPointer, State.readPair]

@[simp] theorem resolve_ppu_oam (o : Operand) (s : State) : (resolve o s).2.ppu.oam = s.ppu.oam := by
  cases o <;> simp [resolve, State.jumpPointer, State.readPair]

@[simp] theorem resolve_ppu_ctrl (o : Operand) (s : State) : (resolve o s).2.ppu.ctrl = s.ppu.ctrl := by
  cases o <;> simp [resolve, State.jumpPointer, State.readPair]

@[simp] theorem resolve_ppu_mask (o : Operand) (s : State) : (resolve o s).2.ppu.mask = s.ppu.mask := by
  cases o <;> simp [resolve, State.jumpPointer, State.readPair]

@[simp] theorem resolve_ppu_sprite0Hit (o : Operand) (s : State) : (resolve o s).2.ppu.sprite0Hit = s.ppu.sprite0Hit := by
  cases o <;> simp [resolve, State.jumpPointer, State.readPair]

@[simp] theorem resolve_ppu_spriteOverflow (o : Operand) (s : State) : (resolve o s).2.ppu.spriteOverflow = s.ppu.spriteOverflow := by
  cases o <;> simp [resolve, State.jumpPointer, State.readPair]

@[simp] theorem resolve_ppu_oamAddr (o : Operand) (s : State) : (resolve o s).2.ppu.oamAddr = s.ppu.oamAddr := by
  cases o <;> simp [resolve, State.jumpPointer, State.readPair]

@[simp] theorem resolve_ppu_ioLatch (o : Operand) (s : State) : (resolve o s).2.ppu.ioLatch = s.ppu.ioLatch := by
  cases o <;> simp [resolve, State.jumpPointer, State.readPair]

@[simp] theorem resolve_ppu_t (o : Operand) (s : State) : (resolve o s).2.ppu.t = s.ppu.t := by
  cases o <;> simp [resolve, State.jumpPointer, State.readPair]

@[simp] theorem resolve_ppu_x (o : Operand) (s : State) : (resolve o s).2.ppu.x = s.ppu.x := by
  cases o <;> simp [resolve, State.jumpPointer, State.readPair]

@[simp] theorem resolve_ppu_dot (o : Operand) (s : State) : (resolve o s).2.ppu.dot = s.ppu.dot := by
  cases o <;> simp [resolve, State.jumpPointer, State.readPair]

@[simp] theorem resolve_ppu_scanline (o : Operand) (s : State) : (resolve o s).2.ppu.scanline = s.ppu.scanline := by
  cases o <;> simp [resolve, State.jumpPointer, State.readPair]

@[simp] theorem resolve_ppu_frame (o : Operand) (s : State) : (resolve o s).2.ppu.frame = s.ppu.frame := by
  cases o <;> simp [resolve, State.jumpPointer, State.readPair]

@[simp] theorem resolve_ppu_done (o : Operand) (s : State) : (resolve o s).2.ppu.done = s.ppu.done := by
  cases o <;> simp [resolve, State.jumpPointer, State.readPair]

@[simp] theorem resolve_ppu_mirroring (o : Operand) (s : State) : (resolve o s).2.ppu.mirroring = s.ppu.mirroring := by
  cases o <;> simp [resolve, State.jumpPointer, State.readPair]

@[simp] theorem State.memWrite_ppu_vblank (s : State) (a : Addr) (v : Byte) :
    (s.memWrite a v).ppu.vblank = s.ppu.vblank := by
  rcases s.memWrite_ppu a v with h | ⟨n, h⟩ <;> simp [h]

@[simp] theorem State.memWrite_ppu_sprite0Hit (s : State) (a : Addr) (v : Byte) :
    (s.memWrite a v).ppu.sprite0Hit = s.ppu.sprite0Hit := by
  rcases s.memWrite_ppu a v with h | ⟨n, h⟩ <;> simp [h]

@[simp] theorem State.memWrite_ppu_spriteOverflow (s : State) (a : Addr) (v : Byte) :
    (s.memWrite a v).ppu.spriteOverflow = s.ppu.spriteOverflow := by
  rcases s.memWrite_ppu a v with h | ⟨n, h⟩ <;> simp [h]

@[simp] theorem State.memWrite_ppu_readBuffer (s : State) (a : Addr) (v : Byte) :
    (s.memWrite a v).ppu.readBuffer = s.ppu.readBuffer := by
  rcases s.memWrite_ppu a v with h | ⟨n, h⟩ <;> simp [h]

@[simp] theorem State.memWrite_ppu_dot (s : State) (a : Addr) (v : Byte) :
    (s.memWrite a v).ppu.dot = s.ppu.dot := by
  rcases s.memWrite_ppu a v with h | ⟨n, h⟩ <;> simp [h]

@[simp] theorem State.memWrite_ppu_scanline (s : State) (a : Addr) (v : Byte) :
    (s.memWrite a v).ppu.scanline = s.ppu.scanline := by
  rcases s.memWrite_ppu a v with h | ⟨n, h⟩ <;> simp [h]

@[simp] theorem State.memWrite_ppu_frame (s : State) (a : Addr) (v : Byte) :
    (s.memWrite a v).ppu.frame = s.ppu.frame := by
  rcases s.memWrite_ppu a v with h | ⟨n, h⟩ <;> simp [h]

@[simp] theorem State.memWrite_ppu_done (s : State) (a : Addr) (v : Byte) :
    (s.memWrite a v).ppu.done = s.ppu.done := by
  rcases s.memWrite_ppu a v with h | ⟨n, h⟩ <;> simp [h]

@[simp] theorem State.memWrite_ppu_mirroring (s : State) (a : Addr) (v : Byte) :
    (s.memWrite a v).ppu.mirroring = s.ppu.mirroring := by
  rcases s.memWrite_ppu a v with h | ⟨n, h⟩ <;> simp [h]

@[simp] theorem State.store_ppu_vblank (s : State) (d : Descriptor) (v : Byte) :
    (s.store d v).ppu.vblank = s.ppu.vblank := by
  cases d <;> simp [State.store]

@[simp] theorem State.store_ppu_sprite0Hit (s : State) (d : Descriptor) (v : Byte) :
    (s.store d v).ppu.sprite0Hit = s.ppu.sprite0Hit := by
  cases d <;> simp [State.store]

@[simp] theorem State.store_ppu_spriteOverflow (s : State) (d : Descriptor) (v : Byte) :
    (s.store d v).ppu.spriteOverflow = s.ppu.spriteOverflow := by
  cases d <;> simp [State.store]

@[simp] theorem State.store_ppu_readBuffer (s : State) (d : Descriptor) (v : Byte) :
    (s.store d v).ppu.readBuffer = s.ppu.readBuffer := by
  cases d <;> simp [State.store]

@[simp] theorem State.store_ppu_dot (s : State) (d : Descriptor) (v : Byte) :
    (s.store d v).ppu.dot = s.ppu.dot := by
  cases d <;> simp [State.store]

@[simp] theorem State.store_ppu_scanline (s : State) (d : Descriptor) (v : Byte) :
    (s.store d v).ppu.scanline = s.ppu.scanline := by
  cases d <;> simp [State.store]

@[simp] theorem State.store_ppu_frame (s : State) (d : Descriptor) (v : Byte) :
    (s.store d v).ppu.frame = s.ppu.frame := by
  cases d <;> simp [State.store]

@[simp] theorem State.store_ppu_done (s : State) (d : Descriptor) (v : Byte) :
    (s.store d v).ppu.done = s.ppu.done := by
  cases d <;> simp [State.store]

@[simp] theorem State.store_ppu_mirroring (s : State) (d : Descriptor) (v : Byte) :
    (s.store d v).ppu.mirroring = s.ppu.mirroring := by
  cases d <;> simp [State.store]

end Sys2Proof.Machine
end

