-- ==== Sys2Proof/Laws/PerInstr.lean ====
section
/-! SUPPORT. One lemma per instruction: the decoder's row for its opcode, given its operand bytes, builds it again. -/

namespace Sys2Proof.Laws.Rebuild

/-- The builder of i's opcode (R175) gives i back from i's operand bytes (R141). -/
def Statement (i : Instr) : Prop :=
  build i.opcode (i.operand.bytes.getD 0 0) (i.operand.bytes.getD 1 0) = i

theorem oraIndX (z : Byte) : Statement (.oraIndX z) := rfl
theorem sloIndX (z : Byte) : Statement (.sloIndX z) := rfl
theorem nopZp04 (z : Byte) : Statement (.nopZp04 z) := rfl
theorem oraZp (z : Byte) : Statement (.oraZp z) := rfl
theorem aslZp (z : Byte) : Statement (.aslZp z) := rfl
theorem sloZp (z : Byte) : Statement (.sloZp z) := rfl
theorem oraImm (k : Byte) : Statement (.oraImm k) := rfl
theorem ancImm0B (k : Byte) : Statement (.ancImm0B k) := rfl
theorem nopAbs (w : Addr) : Statement (.nopAbs w) := congrArg Instr.nopAbs (word16_hi_lo w)
theorem oraAbs (w : Addr) : Statement (.oraAbs w) := congrArg Instr.oraAbs (word16_hi_lo w)
theorem aslAbs (w : Addr) : Statement (.aslAbs w) := congrArg Instr.aslAbs (word16_hi_lo w)
theorem sloAbs (w : Addr) : Statement (.sloAbs w) := congrArg Instr.sloAbs (word16_hi_lo w)
theorem bpl (d : Byte) : Statement (.bpl d) := rfl
theorem oraIndY (z : Byte) : Statement (.oraIndY z) := rfl
theorem sloIndY (z : Byte) : Statement (.sloIndY z) := rfl
theorem nopZpX14 (z : Byte) : Statement (.nopZpX14 z) := rfl
theorem oraZpX (z : Byte) : Statement (.oraZpX z) := rfl
theorem aslZpX (z : Byte) : Statement (.aslZpX z) := rfl
theorem sloZpX (z : Byte) : Statement (.sloZpX z) := rfl
theorem oraAbsY (w : Addr) : Statement (.oraAbsY w) := congrArg Instr.oraAbsY (word16_hi_lo w)
theorem sloAbsY (w : Addr) : Statement (.sloAbsY w) := congrArg Instr.sloAbsY (word16_hi_lo w)
theorem nopAbsX1C (w : Addr) : Statement (.nopAbsX1C w) := congrArg Instr.nopAbsX1C (word16_hi_lo w)
theorem oraAbsX (w : Addr) : Statement (.oraAbsX w) := congrArg Instr.oraAbsX (word16_hi_lo w)
theorem aslAbsX (w : Addr) : Statement (.aslAbsX w) := congrArg Instr.aslAbsX (word16_hi_lo w)
theorem sloAbsX (w : Addr) : Statement (.sloAbsX w) := congrArg Instr.sloAbsX (word16_hi_lo w)
theorem jsr (w : Addr) : Statement (.jsr w) := congrArg Instr.jsr (word16_hi_lo w)
theorem andIndX (z : Byte) : Statement (.andIndX z) := rfl
theorem rlaIndX (z : Byte) : Statement (.rlaIndX z) := rfl
theorem bitZp (z : Byte) : Statement (.bitZp z) := rfl
theorem andZp (z : Byte) : Statement (.andZp z) := rfl
theorem rolZp (z : Byte) : Statement (.rolZp z) := rfl
theorem rlaZp (z : Byte) : Statement (.rlaZp z) := rfl
theorem andImm (k : Byte) : Statement (.andImm k) := rfl
theorem ancImm2B (k : Byte) : Statement (.ancImm2B k) := rfl
theorem bitAbs (w : Addr) : Statement (.bitAbs w) := congrArg Instr.bitAbs (word16_hi_lo w)
theorem andAbs (w : Addr) : Statement (.andAbs w) := congrArg Instr.andAbs (word16_hi_lo w)
theorem rolAbs (w : Addr) : Statement (.rolAbs w) := congrArg Instr.rolAbs (word16_hi_lo w)
theorem rlaAbs (w : Addr) : Statement (.rlaAbs w) := congrArg Instr.rlaAbs (word16_hi_lo w)
theorem bmi (d : Byte) : Statement (.bmi d) := rfl
theorem andIndY (z : Byte) : Statement (.andIndY z) := rfl
theorem rlaIndY (z : Byte) : Statement (.rlaIndY z) := rfl
theorem nopZpX34 (z : Byte) : Statement (.nopZpX34 z) := rfl
theorem andZpX (z : Byte) : Statement (.andZpX z) := rfl
theorem rolZpX (z : Byte) : Statement (.rolZpX z) := rfl
theorem rlaZpX (z : Byte) : Statement (.rlaZpX z) := rfl
theorem andAbsY (w : Addr) : Statement (.andAbsY w) := congrArg Instr.andAbsY (word16_hi_lo w)
theorem rlaAbsY (w : Addr) : Statement (.rlaAbsY w) := congrArg Instr.rlaAbsY (word16_hi_lo w)
theorem nopAbsX3C (w : Addr) : Statement (.nopAbsX3C w) := congrArg Instr.nopAbsX3C (word16_hi_lo w)
theorem andAbsX (w : Addr) : Statement (.andAbsX w) := congrArg Instr.andAbsX (word16_hi_lo w)
theorem rolAbsX (w : Addr) : Statement (.rolAbsX w) := congrArg Instr.rolAbsX (word16_hi_lo w)
theorem rlaAbsX (w : Addr) : Statement (.rlaAbsX w) := congrArg Instr.rlaAbsX (word16_hi_lo w)
theorem eorIndX (z : Byte) : Statement (.eorIndX z) := rfl
theorem sreIndX (z : Byte) : Statement (.sreIndX z) := rfl
theorem nopZp44 (z : Byte) : Statement (.nopZp44 z) := rfl
theorem eorZp (z : Byte) : Statement (.eorZp z) := rfl
theorem lsrZp (z : Byte) : Statement (.lsrZp z) := rfl
theorem sreZp (z : Byte) : Statement (.sreZp z) := rfl
theorem eorImm (k : Byte) : Statement (.eorImm k) := rfl
theorem alrImm (k : Byte) : Statement (.alrImm k) := rfl
theorem jmpAbs (w : Addr) : Statement (.jmpAbs w) := congrArg Instr.jmpAbs (word16_hi_lo w)
theorem eorAbs (w : Addr) : Statement (.eorAbs w) := congrArg Instr.eorAbs (word16_hi_lo w)
theorem lsrAbs (w : Addr) : Statement (.lsrAbs w) := congrArg Instr.lsrAbs (word16_hi_lo w)
theorem sreAbs (w : Addr) : Statement (.sreAbs w) := congrArg Instr.sreAbs (word16_hi_lo w)
theorem bvc (d : Byte) : Statement (.bvc d) := rfl
theorem eorIndY (z : Byte) : Statement (.eorIndY z) := rfl
theorem sreIndY (z : Byte) : Statement (.sreIndY z) := rfl
theorem nopZpX54 (z : Byte) : Statement (.nopZpX54 z) := rfl
theorem eorZpX (z : Byte) : Statement (.eorZpX z) := rfl
theorem lsrZpX (z : Byte) : Statement (.lsrZpX z) := rfl
theorem sreZpX (z : Byte) : Statement (.sreZpX z) := rfl
theorem eorAbsY (w : Addr) : Statement (.eorAbsY w) := congrArg Instr.eorAbsY (word16_hi_lo w)
theorem sreAbsY (w : Addr) : Statement (.sreAbsY w) := congrArg Instr.sreAbsY (word16_hi_lo w)
theorem nopAbsX5C (w : Addr) : Statement (.nopAbsX5C w) := congrArg Instr.nopAbsX5C (word16_hi_lo w)
theorem eorAbsX (w : Addr) : Statement (.eorAbsX w) := congrArg Instr.eorAbsX (word16_hi_lo w)
theorem lsrAbsX (w : Addr) : Statement (.lsrAbsX w) := congrArg Instr.lsrAbsX (word16_hi_lo w)
theorem sreAbsX (w : Addr) : Statement (.sreAbsX w) := congrArg Instr.sreAbsX (word16_hi_lo w)
theorem adcIndX (z : Byte) : Statement (.adcIndX z) := rfl
theorem rraIndX (z : Byte) : Statement (.rraIndX z) := rfl
theorem nopZp64 (z : Byte) : Statement (.nopZp64 z) := rfl
theorem adcZp (z : Byte) : Statement (.adcZp z) := rfl
theorem rorZp (z : Byte) : Statement (.rorZp z) := rfl
theorem rraZp (z : Byte) : Statement (.rraZp z) := rfl
theorem adcImm (k : Byte) : Statement (.adcImm k) := rfl
theorem arrImm (k : Byte) : Statement (.arrImm k) := rfl
theorem jmpInd (w : Addr) : Statement (.jmpInd w) := congrArg Instr.jmpInd (word16_hi_lo w)
theorem adcAbs (w : Addr) : Statement (.adcAbs w) := congrArg Instr.adcAbs (word16_hi_lo w)
theorem rorAbs (w : Addr) : Statement (.rorAbs w) := congrArg Instr.rorAbs (word16_hi_lo w)
theorem rraAbs (w : Addr) : Statement (.rraAbs w) := congrArg Instr.rraAbs (word16_hi_lo w)
theorem bvs (d : Byte) : Statement (.bvs d) := rfl
theorem adcIndY (z : Byte) : Statement (.adcIndY z) := rfl
theorem rraIndY (z : Byte) : Statement (.rraIndY z) := rfl
theorem nopZpX74 (z : Byte) : Statement (.nopZpX74 z) := rfl
theorem adcZpX (z : Byte) : Statement (.adcZpX z) := rfl
theorem rorZpX (z : Byte) : Statement (.rorZpX z) := rfl
theorem rraZpX (z : Byte) : Statement (.rraZpX z) := rfl
theorem adcAbsY (w : Addr) : Statement (.adcAbsY w) := congrArg Instr.adcAbsY (word16_hi_lo w)
theorem rraAbsY (w : Addr) : Statement (.rraAbsY w) := congrArg Instr.rraAbsY (word16_hi_lo w)
theorem nopAbsX7C (w : Addr) : Statement (.nopAbsX7C w) := congrArg Instr.nopAbsX7C (word16_hi_lo w)
theorem adcAbsX (w : Addr) : Statement (.adcAbsX w) := congrArg Instr.adcAbsX (word16_hi_lo w)
theorem rorAbsX (w : Addr) : Statement (.rorAbsX w) := congrArg Instr.rorAbsX (word16_hi_lo w)
theorem rraAbsX (w : Addr) : Statement (.rraAbsX w) := congrArg Instr.rraAbsX (word16_hi_lo w)
theorem nopImm80 (k : Byte) : Statement (.nopImm80 k) := rfl
theorem staIndX (z : Byte) : Statement (.staIndX z) := rfl
theorem nopImm82 (k : Byte) : Statement (.nopImm82 k) := rfl
theorem saxIndX (z : Byte) : Statement (.saxIndX z) := rfl
theorem styZp (z : Byte) : Statement (.styZp z) := rfl
theorem staZp (z : Byte) : Statement (.staZp z) := rfl
theorem stxZp (z : Byte) : Statement (.stxZp z) := rfl
theorem saxZp (z : Byte) : Statement (.saxZp z) := rfl
theorem nopImm89 (k : Byte) : Statement (.nopImm89 k) := rfl
theorem aneImm (k : Byte) : Statement (.aneImm k) := rfl
theorem styAbs (w : Addr) : Statement (.styAbs w) := congrArg Instr.styAbs (word16_hi_lo w)
theorem staAbs (w : Addr) : Statement (.staAbs w) := congrArg Instr.staAbs (word16_hi_lo w)
theorem stxAbs (w : Addr) : Statement (.stxAbs w) := congrArg Instr.stxAbs (word16_hi_lo w)
theorem saxAbs (w : Addr) : Statement (.saxAbs w) := congrArg Instr.saxAbs (word16_hi_lo w)
theorem bcc (d : Byte) : Statement (.bcc d) := rfl
theorem staIndY (z : Byte) : Statement (.staIndY z) := rfl
theorem shaIndY (z : Byte) : Statement (.shaIndY z) := rfl
theorem styZpX (z : Byte) : Statement (.styZpX z) := rfl
theorem staZpX (z : Byte) : Statement (.staZpX z) := rfl
theorem stxZpY (z : Byte) : Statement (.stxZpY z) := rfl
theorem saxZpY (z : Byte) : Statement (.saxZpY z) := rfl
theorem staAbsY (w : Addr) : Statement (.staAbsY w) := congrArg Instr.staAbsY (word16_hi_lo w)
theorem tasAbsY (w : Addr) : Statement (.tasAbsY w) := congrArg Instr.tasAbsY (word16_hi_lo w)
theorem shyAbsX (w : Addr) : Statement (.shyAbsX w) := congrArg Instr.shyAbsX (word16_hi_lo w)
theorem staAbsX (w : Addr) : Statement (.staAbsX w) := congrArg Instr.staAbsX (word16_hi_lo w)
theorem shxAbsY (w : Addr) : Statement (.shxAbsY w) := congrArg Instr.shxAbsY (word16_hi_lo w)
theorem shaAbsY (w : Addr) : Statement (.shaAbsY w) := congrArg Instr.shaAbsY (word16_hi_lo w)
theorem ldyImm (k : Byte) : Statement (.ldyImm k) := rfl
theorem ldaIndX (z : Byte) : Statement (.ldaIndX z) := rfl
theorem ldxImm (k : Byte) : Statement (.ldxImm k) := rfl
theorem laxIndX (z : Byte) : Statement (.laxIndX z) := rfl
theorem ldyZp (z : Byte) : Statement (.ldyZp z) := rfl
theorem ldaZp (z : Byte) : Statement (.ldaZp z) := rfl
theorem ldxZp (z : Byte) : Statement (.ldxZp z) := rfl
theorem laxZp (z : Byte) : Statement (.laxZp z) := rfl
theorem ldaImm (k : Byte) : Statement (.ldaImm k) := rfl
theorem lxaImm (k : Byte) : Statement (.lxaImm k) := rfl
theorem ldyAbs (w : Addr) : Statement (.ldyAbs w) := congrArg Instr.ldyAbs (word16_hi_lo w)
theorem ldaAbs (w : Addr) : Statement (.ldaAbs w) := congrArg Instr.ldaAbs (word16_hi_lo w)
theorem ldxAbs (w : Addr) : Statement (.ldxAbs w) := congrArg Instr.ldxAbs (word16_hi_lo w)
theorem laxAbs (w : Addr) : Statement (.laxAbs w) := congrArg Instr.laxAbs (word16_hi_lo w)
theorem bcs (d : Byte) : Statement (.bcs d) := rfl
theorem ldaIndY (z : Byte) : Statement (.ldaIndY z) := rfl
theorem laxIndY (z : Byte) : Statement (.laxIndY z) := rfl
theorem ldyZpX (z : Byte) : Statement (.ldyZpX z) := rfl
theorem ldaZpX (z : Byte) : Statement (.ldaZpX z) := rfl
theorem ldxZpY (z : Byte) : Statement (.ldxZpY z) := rfl
theorem laxZpY (z : Byte) : Statement (.laxZpY z) := rfl
theorem ldaAbsY (w : Addr) : Statement (.ldaAbsY w) := congrArg Instr.ldaAbsY (word16_hi_lo w)
theorem lasAbsY (w : Addr) : Statement (.lasAbsY w) := congrArg Instr.lasAbsY (word16_hi_lo w)
theorem ldyAbsX (w : Addr) : Statement (.ldyAbsX w) := congrArg Instr.ldyAbsX (word16_hi_lo w)
theorem ldaAbsX (w : Addr) : Statement (.ldaAbsX w) := congrArg Instr.ldaAbsX (word16_hi_lo w)
theorem ldxAbsY (w : Addr) : Statement (.ldxAbsY w) := congrArg Instr.ldxAbsY (word16_hi_lo w)
theorem laxAbsY (w : Addr) : Statement (.laxAbsY w) := congrArg Instr.laxAbsY (word16_hi_lo w)
theorem cpyImm (k : Byte) : Statement (.cpyImm k) := rfl
theorem cmpIndX (z : Byte) : Statement (.cmpIndX z) := rfl
theorem nopImmC2 (k : Byte) : Statement (.nopImmC2 k) := rfl
theorem dcpIndX (z : Byte) : Statement (.dcpIndX z) := rfl
theorem cpyZp (z : Byte) : Statement (.cpyZp z) := rfl
theorem cmpZp (z : Byte) : Statement (.cmpZp z) := rfl
theorem decZp (z : Byte) : Statement (.decZp z) := rfl
theorem dcpZp (z : Byte) : Statement (.dcpZp z) := rfl
theorem cmpImm (k : Byte) : Statement (.cmpImm k) := rfl
theorem sbxImm (k : Byte) : Statement (.sbxImm k) := rfl
theorem cpyAbs (w : Addr) : Statement (.cpyAbs w) := congrArg Instr.cpyAbs (word16_hi_lo w)
theorem cmpAbs (w : Addr) : Statement (.cmpAbs w) := congrArg Instr.cmpAbs (word16_hi_lo w)
theorem decAbs (w : Addr) : Statement (.decAbs w) := congrArg Instr.decAbs (word16_hi_lo w)
theorem dcpAbs (w : Addr) : Statement (.dcpAbs w) := congrArg Instr.dcpAbs (word16_hi_lo w)
theorem bne (d : Byte) : Statement (.bne d) := rfl
theorem cmpIndY (z : Byte) : Statement (.cmpIndY z) := rfl
theorem dcpIndY (z : Byte) : Statement (.dcpIndY z) := rfl
theorem nopZpXD4 (z : Byte) : Statement (.nopZpXD4 z) := rfl
theorem cmpZpX (z : Byte) : Statement (.cmpZpX z) := rfl
theorem decZpX (z : Byte) : Statement (.decZpX z) := rfl
theorem dcpZpX (z : Byte) : Statement (.dcpZpX z) := rfl
theorem cmpAbsY (w : Addr) : Statement (.cmpAbsY w) := congrArg Instr.cmpAbsY (word16_hi_lo w)
theorem dcpAbsY (w : Addr) : Statement (.dcpAbsY w) := congrArg Instr.dcpAbsY (word16_hi_lo w)
theorem nopAbsXDC (w : Addr) : Statement (.nopAbsXDC w) := congrArg Instr.nopAbsXDC (word16_hi_lo w)
theorem cmpAbsX (w : Addr) : Statement (.cmpAbsX w) := congrArg Instr.cmpAbsX (word16_hi_lo w)
theorem decAbsX (w : Addr) : Statement (.decAbsX w) := congrArg Instr.decAbsX (word16_hi_lo w)
theorem dcpAbsX (w : Addr) : Statement (.dcpAbsX w) := congrArg Instr.dcpAbsX (word16_hi_lo w)
theorem cpxImm (k : Byte) : Statement (.cpxImm k) := rfl
theorem sbcIndX (z : Byte) : Statement (.sbcIndX z) := rfl
theorem nopImmE2 (k : Byte) : Statement (.nopImmE2 k) := rfl
theorem iscIndX (z : Byte) : Statement (.iscIndX z) := rfl
theorem cpxZp (z : Byte) : Statement (.cpxZp z) := rfl
theorem sbcZp (z : Byte) : Statement (.sbcZp z) := rfl
theorem incZp (z : Byte) : Statement (.incZp z) := rfl
theorem iscZp (z : Byte) : Statement (.iscZp z) := rfl
theorem sbcImm (k : Byte) : Statement (.sbcImm k) := rfl
theorem usbcImm (k : Byte) : Statement (.usbcImm k) := rfl
theorem cpxAbs (w : Addr) : Statement (.cpxAbs w) := congrArg Instr.cpxAbs (word16_hi_lo w)
theorem sbcAbs (w : Addr) : Statement (.sbcAbs w) := congrArg Instr.sbcAbs (word16_hi_lo w)
theorem incAbs (w : Addr) : Statement (.incAbs w) := congrArg Instr.incAbs (word16_hi_lo w)
theorem iscAbs (w : Addr) : Statement (.iscAbs w) := congrArg Instr.iscAbs (word16_hi_lo w)
theorem beq (d : Byte) : Statement (.beq d) := rfl
theorem sbcIndY (z : Byte) : Statement (.sbcIndY z) := rfl
theorem iscIndY (z : Byte) : Statement (.iscIndY z) := rfl
theorem nopZpXF4 (z : Byte) : Statement (.nopZpXF4 z) := rfl
theorem sbcZpX (z : Byte) : Statement (.sbcZpX z) := rfl
theorem incZpX (z : Byte) : Statement (.incZpX z) := rfl
theorem iscZpX (z : Byte) : Statement (.iscZpX z) := rfl
theorem sbcAbsY (w : Addr) : Statement (.sbcAbsY w) := congrArg Instr.sbcAbsY (word16_hi_lo w)
theorem iscAbsY (w : Addr) : Statement (.iscAbsY w) := congrArg Instr.iscAbsY (word16_hi_lo w)
theorem nopAbsXFC (w : Addr) : Statement (.nopAbsXFC w) := congrArg Instr.nopAbsXFC (word16_hi_lo w)
theorem sbcAbsX (w : Addr) : Statement (.sbcAbsX w) := congrArg Instr.sbcAbsX (word16_hi_lo w)
theorem incAbsX (w : Addr) : Statement (.incAbsX w) := congrArg Instr.incAbsX (word16_hi_lo w)
theorem iscAbsX (w : Addr) : Statement (.iscAbsX w) := congrArg Instr.iscAbsX (word16_hi_lo w)
theorem brk : Statement .brk := rfl
theorem jam02 : Statement .jam02 := rfl
theorem php : Statement .php := rfl
theorem aslAcc : Statement .aslAcc := rfl
theorem jam12 : Statement .jam12 := rfl
theorem clc : Statement .clc := rfl
theorem nop1A : Statement .nop1A := rfl
theorem jam22 : Statement .jam22 := rfl
theorem plp : Statement .plp := rfl
theorem rolAcc : Statement .rolAcc := rfl
theorem jam32 : Statement .jam32 := rfl
theorem sec : Statement .sec := rfl
theorem nop3A : Statement .nop3A := rfl
theorem rti : Statement .rti := rfl
theorem jam42 : Statement .jam42 := rfl
theorem pha : Statement .pha := rfl
theorem lsrAcc : Statement .lsrAcc := rfl
theorem jam52 : Statement .jam52 := rfl
theorem cli : Statement .cli := rfl
theorem nop5A : Statement .nop5A := rfl
theorem rts : Statement .rts := rfl
theorem jam62 : Statement .jam62 := rfl
theorem pla : Statement .pla := rfl
theorem rorAcc : Statement .rorAcc := rfl
theorem jam72 : Statement .jam72 := rfl
theorem sei : Statement .sei := rfl
theorem nop7A : Statement .nop7A := rfl
theorem dey : Statement .dey := rfl
theorem txa : Statement .txa := rfl
theorem jam92 : Statement .jam92 := rfl
theorem tya : Statement .tya := rfl
theorem txs : Statement .txs := rfl
theorem tay : Statement .tay := rfl
theorem tax : Statement .tax := rfl
theorem jamB2 : Statement .jamB2 := rfl
theorem clv : Statement .clv := rfl
theorem tsx : Statement .tsx := rfl
theorem iny : Statement .iny := rfl
theorem dex : Statement .dex := rfl
theorem jamD2 : Statement .jamD2 := rfl
theorem cld : Statement .cld := rfl
theorem nopDA : Statement .nopDA := rfl
theorem inx : Statement .inx := rfl
theorem nop : Statement .nop := rfl
theorem jamF2 : Statement .jamF2 := rfl
theorem sed : Statement .sed := rfl
theorem nopFA : Statement .nopFA := rfl

end Sys2Proof.Laws.Rebuild
end

