-- ==== Sys2Proof/Tests/Slice0.lean ====
section
/-! SUPPORT. The model's own tests: the well-formedness checks refuse, words written out from the spec's encodings decode,
and one step on a small state gives what a vector of spec/95_test_vectors.md or a rule's example says; then, for each
obligation, a state and operands that meet its hypotheses. -/

namespace Sys2Proof.Tests

open Sys2Proof.Machine

/-- The parameters the vectors assume (95_test_vectors.md, Notation); the magic values of X18 and X20. -/
def params : Params :=
  { jamPolicy := .halt, branchPenalty := .none, unstableStore := .common, aneMagic := 0xEE, lxaMagic := 0xEE
    nmiCycles := 7, dmaCycles := 513, irqCycles := 7, vblankClearOffset := 0 }

def hardware : Params := { params with branchPenalty := .hardware }

def refusing : Params := { params with unstableStore := .refuse }

def jamNop : Params := { params with jamPolicy := .nop }

/-- Power-on with the memory given, PC at $0600 and vertical mirroring. -/
def start (mem : Mem) : State :=
  State.powerOn
    { memInit := mem, vramInit := [], oamInit := [], params := params, hostSteps := [1], pc := 0x0600
      mirroring := .vertical }

/-- Whether the outcome is a next state that passes the check. -/
def after (r : Result) (check : State → Bool) : Bool :=
  match r with
  | .next t => check t
  | .fault _ => false
  | .refused _ => false

/-- Whether the outcome is the named fault. -/
def stopsWith (r : Result) (f : Fault) : Bool :=
  match r with
  | .next _ => false
  | .fault g => decide (g = f)
  | .refused _ => false

/-- Whether the step answers a next state. -/
def goesOn (s : State) : Bool := after (step s) fun _ => true

/-! Well-formedness (R91, R602, R605). -/

theorem test_range_over_registers_refused : AddrRange.wellFormed ⟨0x401F, 0xFFFF⟩ = false := by decide

theorem test_range_reversed_refused : AddrRange.wellFormed ⟨0xFFFF, 0x8000⟩ = false := by decide

theorem test_range_accepted : AddrRange.wellFormed ⟨0x4020, 0xFFFF⟩ = true := by decide

theorem test_cartridge_prg_size_refused : Cartridge.wellFormed ⟨[0x00], [], .vertical⟩ = false := by decide

theorem test_cartridge_chr_size_refused :
    Cartridge.wellFormed ⟨List.replicate 16384 0, [0x00], .vertical⟩ = false := by
  rw [Cartridge.wellFormed, List.length_replicate]; decide

theorem test_position_outside_frame_refused : Ppu.positionWf { (start []).ppu with dot := 341 } = false := by decide

theorem test_state_out_of_order_memory_refused : State.wf (start [(0x2, 0x01), (0x1, 0x01)]) = false := by decide

theorem test_state_unlisted_byte_refused : State.wf (start [(0x2, 0x00)]) = false := by decide

theorem test_state_beyond_memory_refused : State.wf (start [(0x10000, 0x01)]) = false := by decide

theorem test_load_short_header_refused : stopsWith (loadFile romMagic (start [])) .malformedHeader = true := by decide

theorem test_load_magic_refused : stopsWith (loadFile (List.replicate 16 0x4E) (start [])) .malformedHeader = true := by decide

theorem test_load_mapper_refused :
    stopsWith (loadFile (romMagic ++ [0x01, 0x00, 0x10] ++ List.replicate 9 0) (start [])) .unsupportedMapper = true := by decide

theorem test_load_prg_size_refused :
    stopsWith (loadFile (romMagic ++ [0x03, 0x00, 0x00] ++ List.replicate 9 0) (start [])) .unsupportedSize = true := by decide

theorem test_load_chr_size_refused :
    stopsWith (loadFile (romMagic ++ [0x01, 0x02, 0x00] ++ List.replicate 9 0) (start [])) .unsupportedSize = true := by decide

theorem test_load_truncated_refused :
    stopsWith (loadFile (romMagic ++ [0x01, 0x01, 0x00] ++ List.replicate 9 0) (start [])) .truncatedFile = true := by decide

/-! Decoding: the words are written out from the table and the examples of 30_encoding.md. -/

theorem test_decode_missing_operand_refused : decode [0xAD, 0x00] = .error .missingOperand := by decide

theorem test_decode_no_opcode_refused : decode [] = .error .noOpcode := by decide

theorem test_decode_loads : decode [0xA9, 0x10] = .ok (.ldaImm 0x10, []) := by rfl

theorem test_decode_loads_indexed_indirect : decode [0xA1, 0xFE] = .ok (.ldaIndX 0xFE, []) := by rfl

theorem test_decode_stores : decode [0x8D, 0x00, 0x02] = .ok (.staAbs 0x0200, []) := by rfl

theorem test_decode_transfers : decode [0x9A] = .ok (.txs, []) := by rfl

theorem test_decode_stack : decode [0x08] = .ok (.php, []) := by rfl

theorem test_decode_arithmetic : decode [0x7E, 0x00, 0x02] = .ok (.rorAbsX 0x0200, []) := by rfl

theorem test_decode_accumulator : decode [0x2A] = .ok (.rolAcc, []) := by rfl

theorem test_decode_control : decode [0x6C, 0xFF, 0x02] = .ok (.jmpInd 0x02FF, []) := by rfl

theorem test_decode_branches : decode [0xF0, 0xFC] = .ok (.beq 0xFC, []) := by rfl

theorem test_decode_flags : decode [0xB8] = .ok (.clv, []) := by rfl

theorem test_decode_illegal : decode [0x93, 0x10] = .ok (.shaIndY 0x10, []) := by rfl

theorem test_decode_illegal_nops : decode [0x1C, 0xF0, 0x12] = .ok (.nopAbsX1C 0x12F0, []) := by rfl

theorem test_decode_jam : decode [0xF2] = .ok (.jamF2, []) := by rfl

theorem test_decode_usbc : decode [0xEB, 0x01] = .ok (.usbcImm 0x01, []) := by rfl

theorem test_decode_brk : decode [0x00] = .ok (.brk, []) := by rfl

theorem test_encode_stores_low_byte_first : encode (.staAbs 0x0200) = [0x8D, 0x00, 0x02] := by decide

theorem test_decode_table_word : decodeTableWord 24 0x02008D = some (.staAbs 0x0200) := by rfl

theorem test_decode_table_word_short : decodeTableWord 8 0x02008D = some (.staAbs 0x0000) := by rfl

/-! Meanings: each from the vector or rule named. -/

/-- 95_test_vectors.md L1. -/
theorem test_lda_zero :
    after (exec (.ldaImm 0x00) { start [] with a := 0x55 }) (fun t =>
      t.a == 0x00 && t.p.z && !t.p.n && t.cycles == 2) = true := by
  decide

/-- 95_test_vectors.md L3. -/
theorem test_lda_zpx_wraps :
    after (exec (.ldaZpX 0xF0) { start [(0x10, 0x5A)] with x := 0x20 }) (fun t =>
      t.a == 0x5A && t.cycles == 4) = true := by
  decide

/-- 95_test_vectors.md L5. -/
theorem test_lda_absx_crosses :
    after (exec (.ldaAbsX 0x02FF) { start [(0x304, 0x22)] with x := 0x05 }) (fun t =>
      t.a == 0x22 && t.cycles == 5) = true := by
  decide

/-- 95_test_vectors.md L6. -/
theorem test_lda_indx_pointer_wraps :
    after (exec (.ldaIndX 0xFE) { start [(0x0, 0x02), (0xFF, 0x34), (0x234, 0x99)] with x := 0x01 }) (fun t =>
      t.a == 0x99 && t.p.n && t.cycles == 6) = true := by
  decide

/-- 95_test_vectors.md L7. -/
theorem test_lda_indy_crosses :
    after (exec (.ldaIndY 0x40) { start [(0x40, 0xF0), (0x41, 0x02), (0x300, 0x77)] with y := 0x10 }) (fun t =>
      t.a == 0x77 && t.cycles == 6) = true := by
  decide

/-- 95_test_vectors.md L9. -/
theorem test_ldx_zpy_wraps :
    after (exec (.ldxZpY 0xFF) { start [(0x1, 0xAB)] with y := 0x02 }) (fun t =>
      t.x == 0xAB && t.p.n && t.cycles == 4) = true := by
  decide

/-- R203. -/
theorem test_ldy_zero :
    after (exec (.ldyImm 0x00) { start [] with y := 0x55 }) (fun t =>
      t.y == 0x00 && t.p.z && !t.p.n) = true := by
  decide

/-- 95_test_vectors.md L10. -/
theorem test_sta_absx_no_penalty :
    after (exec (.staAbsX 0x02FF) { start [] with x := 0x01, a := 0x3C }) (fun t =>
      t.mem == [(0x300, 0x3C)] && t.cycles == 5) = true := by
  decide

/-- 95_test_vectors.md B1. -/
theorem test_sta_mirrored_ram :
    after (exec (.staAbs 0x0800) { start [] with a := 0x42 }) (fun t =>
      t.mem == [(0x0, 0x42)] && t.cycles == 4) = true := by
  decide

/-- 95_test_vectors.md B2. -/
theorem test_sta_mapper_range :
    after (exec (.staAbs 0x9000) { start [] with a := 0x42 }) (fun t =>
      t.mem == [] && t.cycles == 4) = true := by
  decide

/-- 95_test_vectors.md B3. -/
theorem test_sta_mirrored_ppuctrl :
    after (exec (.staAbs 0x2008) { start [] with a := 0x80 }) (fun t =>
      t.ppu.ctrl == 0x80 && t.ppu.ioLatch == 0x80 && !t.nmiPending) = true := by
  decide

/-- R205. -/
theorem test_stx_zp :
    after (exec (.stxZp 0x10) { start [] with x := 0x07 }) (fun t =>
      t.mem == [(0x10, 0x07)]) = true := by
  decide

/-- R206. -/
theorem test_sty_zpx_wraps :
    after (exec (.styZpX 0x02) { start [] with x := 0xFF, y := 0x01 }) (fun t =>
      t.mem == [(0x1, 0x01)]) = true := by
  decide

/-- R207. -/
theorem test_tax :
    after (exec (.tax) { start [] with a := 0x80 }) (fun t =>
      t.x == 0x80 && t.p.n && !t.p.z) = true := by
  decide

/-- R208. -/
theorem test_tay :
    after (exec (.tay) { start [] with y := 0x55 }) (fun t =>
      t.y == 0x00 && t.p.z && !t.p.n) = true := by
  decide

/-- R209. -/
theorem test_txa :
    after (exec (.txa) { start [] with x := 0x7F }) (fun t =>
      t.a == 0x7F && !t.p.n && !t.p.z) = true := by
  decide

/-- R210. -/
theorem test_tya :
    after (exec (.tya) { start [] with y := 0xFF }) (fun t =>
      t.a == 0xFF && t.p.n) = true := by
  decide

/-- 95_test_vectors.md L12. -/
theorem test_tsx :
    after (exec (.tsx) { start [] with sp := 0x80 }) (fun t =>
      t.x == 0x80 && t.p.n && t.cycles == 2) = true := by
  decide

/-- 95_test_vectors.md L11. -/
theorem test_txs :
    after (exec (.txs) { start [] with x := 0x00 }) (fun t =>
      t.sp == 0x00 && !t.p.z && t.cycles == 2) = true := by
  decide

/-- 95_test_vectors.md L18. -/
theorem test_pha_wraps :
    after (exec (.pha) { start [] with sp := 0x00, a := 0x5E }) (fun t =>
      t.mem == [(0x100, 0x5E)] && t.sp == 0xFF && t.cycles == 3) = true := by
  decide

/-- 95_test_vectors.md L14. -/
theorem test_php :
    after (exec (.php) { start [] with p := ⟨true, false, true, false, false, true⟩ }) (fun t =>
      t.mem == [(0x1FD, 0xB5)] && t.sp == 0xFC && t.cycles == 3) = true := by
  decide

/-- 95_test_vectors.md L17. -/
theorem test_pla_wraps :
    after (exec (.pla) { start [(0x100, 0x81)] with sp := 0xFF }) (fun t =>
      t.a == 0x81 && t.p.n && t.sp == 0x00 && t.cycles == 4) = true := by
  decide

/-- 95_test_vectors.md L15. -/
theorem test_plp :
    after (exec (.plp) { start [(0x1FE, 0xFF)] with a := 0x00 }) (fun t =>
      t.p == ⟨true, true, true, true, true, true⟩ && t.sp == 0xFE && t.cycles == 4) = true := by
  decide

/-- 95_test_vectors.md A2. -/
theorem test_adc_overflow :
    after (exec (.adcImm 0x50) { start [] with a := 0x50 }) (fun t =>
      t.a == 0xA0 && t.p.n && t.p.v && !t.p.z && !t.p.c) = true := by
  decide

/-- 95_test_vectors.md A19. -/
theorem test_adc_decimal_is_inert :
    after (exec (.adcImm 0x01) { start [] with a := 0x09, p := ⟨false, false, true, true, false, false⟩ }) (fun t =>
      t.a == 0x0A && t.p.d) = true := by
  decide

/-- 95_test_vectors.md A17. -/
theorem test_sbc_overflow :
    after (exec (.sbcImm 0x01) { start [] with a := 0x80, p := ⟨true, false, true, false, false, false⟩ }) (fun t =>
      t.a == 0x7F && !t.p.n && t.p.v && !t.p.z && t.p.c) = true := by
  decide

/-- 95_test_vectors.md A16. -/
theorem test_sbc_borrow :
    after (exec (.sbcImm 0x00) { start [] with a := 0x00 }) (fun t =>
      t.a == 0xFF && t.p.n && !t.p.v && !t.p.z && !t.p.c) = true := by
  decide

/-- 95_test_vectors.md A20. -/
theorem test_and :
    after (exec (.andImm 0x0F) { start [] with a := 0xF0 }) (fun t =>
      t.a == 0x00 && t.p.z) = true := by
  decide

/-- 95_test_vectors.md A21. -/
theorem test_ora :
    after (exec (.oraImm 0x80) { start [] with a := 0x01 }) (fun t =>
      t.a == 0x81 && t.p.n) = true := by
  decide

/-- R266. -/
theorem test_eor :
    after (exec (.eorImm 0x0F) { start [] with a := 0xFF }) (fun t =>
      t.a == 0xF0 && t.p.n) = true := by
  decide

/-- 95_test_vectors.md A25. -/
theorem test_cmp :
    after (exec (.cmpImm 0x01) { start [] with a := 0x90 }) (fun t =>
      !t.p.z && t.p.c && t.p.n && t.a == 0x90) = true := by
  decide

/-- R268. -/
theorem test_cpx :
    after (exec (.cpxImm 0x06) { start [] with x := 0x05 }) (fun t =>
      !t.p.c && !t.p.z && t.p.n) = true := by
  decide

/-- 95_test_vectors.md A27. -/
theorem test_cpy :
    after (exec (.cpyImm 0xFF) { start [] with y := 0x00 }) (fun t =>
      !t.p.c && !t.p.z && !t.p.n) = true := by
  decide

/-- 95_test_vectors.md A28. -/
theorem test_bit :
    after (exec (.bitZp 0x10) { start [(0x10, 0xC0)] with a := 0x01 }) (fun t =>
      t.p.z && t.p.n && t.p.v && t.a == 0x01 && t.cycles == 3) = true := by
  decide

/-- 95_test_vectors.md A40. -/
theorem test_inc :
    after (exec (.incAbsX 0x02FF) { start [(0x300, 0x7F)] with x := 0x01 }) (fun t =>
      t.mem == [(0x300, 0x80)] && t.p.n && t.cycles == 7) = true := by
  decide

/-- 95_test_vectors.md A31. -/
theorem test_dec :
    after (exec (.decZp 0x10) { start [] with a := 0x00 }) (fun t =>
      t.mem == [(0x10, 0xFF)] && t.p.n && t.cycles == 5) = true := by
  decide

/-- 95_test_vectors.md A32. -/
theorem test_inx :
    after (exec (.inx) { start [] with x := 0xFF }) (fun t =>
      t.x == 0x00 && t.p.z) = true := by
  decide

/-- R274. -/
theorem test_iny :
    after (exec (.iny) { start [] with y := 0x7F }) (fun t =>
      t.y == 0x80 && t.p.n) = true := by
  decide

/-- R275. -/
theorem test_dex :
    after (exec (.dex) { start [] with x := 0x00 }) (fun t =>
      t.x == 0xFF && t.p.n) = true := by
  decide

/-- 95_test_vectors.md A33. -/
theorem test_dey :
    after (exec (.dey) { start [] with y := 0x01 }) (fun t =>
      t.y == 0x00 && t.p.z) = true := by
  decide

/-- 95_test_vectors.md A34. -/
theorem test_asl_accumulator :
    after (exec (.aslAcc) { start [] with a := 0x81 }) (fun t =>
      t.a == 0x02 && t.p.c && t.cycles == 2) = true := by
  decide

/-- 95_test_vectors.md A38. -/
theorem test_asl_memory :
    after (exec (.aslZp 0x10) { start [(0x10, 0x40)] with a := 0x00 }) (fun t =>
      t.mem == [(0x10, 0x80)] && t.p.n && !t.p.c && t.cycles == 5) = true := by
  decide

/-- 95_test_vectors.md A35. -/
theorem test_lsr :
    after (exec (.lsrAcc) { start [] with a := 0x01 }) (fun t =>
      t.a == 0x00 && t.p.c && t.p.z) = true := by
  decide

/-- 95_test_vectors.md A36. -/
theorem test_rol :
    after (exec (.rolAcc) { start [] with a := 0x80, p := ⟨true, false, true, false, false, false⟩ }) (fun t =>
      t.a == 0x01 && t.p.c) = true := by
  decide

/-- 95_test_vectors.md A37. -/
theorem test_ror_accumulator :
    after (exec (.rorAcc) { start [] with a := 0x01, p := ⟨true, false, true, false, false, false⟩ }) (fun t =>
      t.a == 0x80 && t.p.c && t.p.n) = true := by
  decide

/-- 95_test_vectors.md A39. -/
theorem test_ror_memory :
    after (exec (.rorAbsX 0x0200) { start [(0x203, 0x02)] with x := 0x03 }) (fun t =>
      t.mem == [(0x203, 0x01)] && !t.p.c && t.cycles == 7) = true := by
  decide

/-- 95_test_vectors.md T1. -/
theorem test_jmp_absolute :
    after (exec (.jmpAbs 0x1234) { start [] with a := 0x00 }) (fun t =>
      t.pc == 0x1234 && t.cycles == 3) = true := by
  decide

/-- 95_test_vectors.md T3. -/
theorem test_jmp_indirect_page_wrap :
    after (exec (.jmpInd 0x02FF) { start [(0x200, 0x12), (0x2FF, 0x34), (0x300, 0x99)] with a := 0x00 }) (fun t =>
      t.pc == 0x1234 && t.cycles == 5) = true := by
  decide

/-- 95_test_vectors.md T4. -/
theorem test_jsr :
    after (exec (.jsr 0x0400) { start [] with pc := 0x0303 }) (fun t =>
      t.mem == [(0x1FC, 0x02), (0x1FD, 0x03)] && t.sp == 0xFB && t.pc == 0x0400 && t.cycles == 6) = true := by
  decide

/-- 95_test_vectors.md T5. -/
theorem test_rts :
    after (exec (.rts) { start [(0x1FC, 0x02), (0x1FD, 0x03)] with sp := 0xFB }) (fun t =>
      t.pc == 0x0303 && t.sp == 0xFD && t.cycles == 6) = true := by
  decide

/-- 95_test_vectors.md T6. -/
theorem test_rti :
    after (exec (.rti) { start [(0x1FB, 0xC3), (0x1FC, 0x34), (0x1FD, 0x12)] with sp := 0xFA }) (fun t =>
      t.p == ⟨true, true, false, false, true, true⟩ && t.pc == 0x1234 && t.sp == 0xFD && t.cycles == 6) = true := by
  decide

/-- 95_test_vectors.md T7. -/
theorem test_brk :
    after (exec (.brk) { start [] with pc := 0x0301 }) (fun t =>
      t.mem == [(0x1FB, 0x34), (0x1FC, 0x02), (0x1FD, 0x03)] && t.sp == 0xFA && t.p.i && t.pc == 0x0000 && t.stop && t.cycles == 7) = true := by
  decide

/-- 95_test_vectors.md K1. -/
theorem test_bne_taken :
    after (exec (.bne 0x10) { start [] with pc := 0x0302 }) (fun t =>
      t.pc == 0x0312 && t.cycles == 2) = true := by
  decide

/-- 95_test_vectors.md K3. -/
theorem test_beq_other_page_hardware :
    after (exec (.beq 0xFC) { start [] with pc := 0x0302, p := ⟨false, true, true, false, false, false⟩, params := hardware }) (fun t =>
      t.pc == 0x02FE && t.cycles == 4) = true := by
  decide

/-- 95_test_vectors.md K4. -/
theorem test_bpl_taken_hardware :
    after (exec (.bpl 0x7F) { start [] with pc := 0x03F2, params := hardware }) (fun t =>
      t.pc == 0x0471 && t.cycles == 4) = true := by
  decide

/-- 95_test_vectors.md K5. -/
theorem test_bmi_taken :
    after (exec (.bmi 0x02) { start [] with pc := 0x0302, p := ⟨false, false, true, false, false, true⟩ }) (fun t =>
      t.pc == 0x0304) = true := by
  decide

/-- 95_test_vectors.md K6. -/
theorem test_bvc_taken :
    after (exec (.bvc 0x02) { start [] with pc := 0x0302 }) (fun t =>
      t.pc == 0x0304) = true := by
  decide

/-- 95_test_vectors.md K7. -/
theorem test_bvs_not_taken :
    after (exec (.bvs 0x02) { start [] with pc := 0x0302, params := hardware }) (fun t =>
      t.pc == 0x0302 && t.cycles == 2) = true := by
  decide

/-- 95_test_vectors.md K8. -/
theorem test_bcc_backward :
    after (exec (.bcc 0x80) { start [] with pc := 0x0302 }) (fun t =>
      t.pc == 0x0282) = true := by
  decide

/-- 95_test_vectors.md K9. -/
theorem test_bcs_taken_hardware :
    after (exec (.bcs 0x00) { start [] with pc := 0x0302, p := ⟨true, false, true, false, false, false⟩, params := hardware }) (fun t =>
      t.pc == 0x0302 && t.cycles == 3) = true := by
  decide

/-- 95_test_vectors.md T8. -/
theorem test_sec :
    after (exec (.sec) { start [] with a := 0x00 }) (fun t =>
      t.p.c && t.cycles == 2) = true := by
  decide

/-- 95_test_vectors.md T9. -/
theorem test_cli :
    after (exec (.cli) { start [] with a := 0x00 }) (fun t =>
      !t.p.i) = true := by
  decide

/-- 95_test_vectors.md T10. -/
theorem test_sei :
    after (exec (.sei) { start [] with p := ⟨false, false, false, false, false, false⟩ }) (fun t =>
      t.p.i) = true := by
  decide

/-- 95_test_vectors.md T11. -/
theorem test_sed :
    after (exec (.sed) { start [] with a := 0x00 }) (fun t =>
      t.p.d) = true := by
  decide

/-- 95_test_vectors.md T12. -/
theorem test_cld :
    after (exec (.cld) { start [] with p := ⟨false, false, true, true, false, false⟩ }) (fun t =>
      !t.p.d) = true := by
  decide

/-- 95_test_vectors.md T13. -/
theorem test_clv :
    after (exec (.clv) { start [] with p := ⟨false, false, true, false, true, false⟩ }) (fun t =>
      !t.p.v) = true := by
  decide

/-- 95_test_vectors.md T14. -/
theorem test_clc :
    after (exec (.clc) { start [] with p := ⟨true, false, true, false, false, false⟩ }) (fun t =>
      !t.p.c) = true := by
  decide

/-- 95_test_vectors.md X33. -/
theorem test_nop_memory_crosses :
    after (exec (.nopAbsX1C 0x12F0) { start [] with x := 0x20 }) (fun t =>
      t.cycles == 5 && t.pc == 0x0600) = true := by
  decide

/-- R416. -/
theorem test_nop_reads_nothing :
    after (exec (.nopAbs 0x2002) { start [] with a := 0x00 }) (fun t =>
      !t.ppu.vblank && t.cycles == 4) = true := by
  decide

/-- 95_test_vectors.md X1. -/
theorem test_slo :
    after (exec (.sloZp 0x10) { start [(0x10, 0x81)] with a := 0x01 }) (fun t =>
      t.mem == [(0x10, 0x02)] && t.p.c && t.a == 0x03 && t.cycles == 5) = true := by
  decide

/-- 95_test_vectors.md X2. -/
theorem test_rla :
    after (exec (.rlaZp 0x10) { start [(0x10, 0x80)] with a := 0xFF, p := ⟨true, false, true, false, false, false⟩ }) (fun t =>
      t.mem == [(0x10, 0x01)] && t.p.c && t.a == 0x01) = true := by
  decide

/-- 95_test_vectors.md X3. -/
theorem test_sre :
    after (exec (.sreZp 0x10) { start [(0x10, 0x03)] with a := 0x01 }) (fun t =>
      t.mem == [(0x10, 0x01)] && t.p.c && t.a == 0x00 && t.p.z) = true := by
  decide

/-- 95_test_vectors.md X4. -/
theorem test_rra :
    after (exec (.rraZp 0x10) { start [(0x10, 0x03)] with a := 0x10 }) (fun t =>
      t.mem == [(0x10, 0x01)] && !t.p.c && t.a == 0x12) = true := by
  decide

/-- 95_test_vectors.md X5. -/
theorem test_sax :
    after (exec (.saxZp 0x10) { start [] with a := 0xF0, x := 0x3C }) (fun t =>
      t.mem == [(0x10, 0x30)] && !t.p.z && t.cycles == 3) = true := by
  decide

/-- 95_test_vectors.md X7. -/
theorem test_lax_crosses :
    after (exec (.laxIndY 0x10) { start [(0x10, 0xFF), (0x11, 0x02), (0x300, 0x44)] with y := 0x01 }) (fun t =>
      t.a == 0x44 && t.x == 0x44 && t.cycles == 6) = true := by
  decide

/-- 95_test_vectors.md X8. -/
theorem test_dcp :
    after (exec (.dcpZp 0x10) { start [(0x10, 0x41)] with a := 0x40 }) (fun t =>
      t.mem == [(0x10, 0x40)] && t.p.z && t.p.c) = true := by
  decide

/-- 95_test_vectors.md X9. -/
theorem test_isc :
    after (exec (.iscZp 0x10) { start [(0x10, 0x0F)] with a := 0x20, p := ⟨true, false, true, false, false, false⟩ }) (fun t =>
      t.mem == [(0x10, 0x10)] && t.a == 0x10 && t.p.c) = true := by
  decide

/-- 95_test_vectors.md X10. -/
theorem test_anc :
    after (exec (.ancImm0B 0x80) { start [] with a := 0xFF }) (fun t =>
      t.a == 0x80 && t.p.n && t.p.c) = true := by
  decide

/-- 95_test_vectors.md X11. -/
theorem test_alr :
    after (exec (.alrImm 0x03) { start [] with a := 0xFF }) (fun t =>
      t.a == 0x01 && t.p.c) = true := by
  decide

/-- 95_test_vectors.md X13. -/
theorem test_arr :
    after (exec (.arrImm 0x80) { start [] with a := 0x80, p := ⟨true, false, true, false, false, false⟩ }) (fun t =>
      t.a == 0xC0 && t.p.c && t.p.v && t.p.n) = true := by
  decide

/-- 95_test_vectors.md X15. -/
theorem test_sbx :
    after (exec (.sbxImm 0x20) { start [] with a := 0xFF, x := 0x10 }) (fun t =>
      t.x == 0xF0 && !t.p.c && t.p.n) = true := by
  decide

/-- 95_test_vectors.md X16. -/
theorem test_usbc :
    after (exec (.usbcImm 0x01) { start [] with a := 0x10, p := ⟨true, false, true, false, false, false⟩ }) (fun t =>
      t.a == 0x0F && t.p.c) = true := by
  decide

/-- 95_test_vectors.md X18. -/
theorem test_ane :
    after (exec (.aneImm 0xFF) { start [] with x := 0xFF }) (fun t =>
      t.a == 0xEE && t.p.n) = true := by
  decide

/-- 95_test_vectors.md X20. -/
theorem test_lxa :
    after (exec (.lxaImm 0xFF) { start [] with a := 0x01 }) (fun t =>
      t.a == 0xEF && t.x == 0xEF && t.p.n) = true := by
  decide

/-- 95_test_vectors.md X21. -/
theorem test_las :
    after (exec (.lasAbsY 0x0200) { start [(0x200, 0xF3)] with sp := 0x3F }) (fun t =>
      t.a == 0x33 && t.x == 0x33 && t.sp == 0x33 && t.cycles == 4) = true := by
  decide

/-- 95_test_vectors.md X22. -/
theorem test_sha :
    after (exec (.shaAbsY 0x1200) { start [] with a := 0xFF, x := 0xFF, y := 0x05 }) (fun t =>
      t.mem == [(0x205, 0x13)] && t.cycles == 5) = true := by
  decide

/-- 95_test_vectors.md X28. -/
theorem test_sha_refused :
    after (exec (.shaAbsY 0x1200) { start [] with a := 0xFF, x := 0xFF, y := 0x05, params := refusing }) (fun t =>
      t.mem == [] && t.refused) = true := by
  decide

/-- 95_test_vectors.md X27. -/
theorem test_sha_indy_crosses :
    after (exec (.shaIndY 0x10) { start [(0x10, 0xF0), (0x11, 0x04)] with a := 0x0F, x := 0xFF, y := 0x20 }) (fun t =>
      t.mem == [(0x10, 0xF0), (0x11, 0x04), (0x510, 0x05)]) = true := by
  decide

/-- 95_test_vectors.md X26. -/
theorem test_shx_crosses :
    after (exec (.shxAbsY 0x02FF) { start [] with x := 0xFF, y := 0x01 }) (fun t =>
      t.mem == [(0x300, 0x03)]) = true := by
  decide

/-- 95_test_vectors.md X24. -/
theorem test_shy :
    after (exec (.shyAbsX 0x0200) { start [] with y := 0xFF }) (fun t =>
      t.mem == [(0x200, 0x03)]) = true := by
  decide

/-- 95_test_vectors.md X25. -/
theorem test_tas :
    after (exec (.tasAbsY 0x0200) { start [(0x200, 0x55)] with a := 0xF0, x := 0x3F }) (fun t =>
      t.sp == 0x30 && t.mem == []) = true := by
  decide

/-- 95_test_vectors.md X34. -/
theorem test_jam_halts :
    after (exec (.jam02) { start [] with pc := 0x0601 }) (fun t =>
      t.jammed && t.pc == 0x0601 && !t.stop) = true := by
  decide

/-- 95_test_vectors.md X35. -/
theorem test_jam_as_nop :
    after (exec (.jamF2) { start [] with params := jamNop }) (fun t =>
      !t.jammed && t.cycles == 2) = true := by
  decide

/-- 95_test_vectors.md P1v. -/
theorem test_ppu_status :
    after (exec (.ldaAbs 0x2002) { start [] with ppu := { (start []).ppu with vblank := true, sprite0Hit := true, ioLatch := 0x1F, w := true } }) (fun t =>
      t.a == 0xDF && !t.ppu.vblank && !t.ppu.w) = true := by
  decide

/-- 95_test_vectors.md P2v. -/
theorem test_ppu_palette_read :
    after (exec (.ldaAbs 0x2007) { start [] with ppu := { (start []).ppu with v := 0x3F00, vram := [(0x2700, 0xAA), (0x3F00, 0x0F)] } }) (fun t =>
      t.a == 0x0F && t.ppu.readBuffer == 0xAA && t.ppu.v == 0x3F01) = true := by
  decide

/-- 95_test_vectors.md P3v. -/
theorem test_ppu_buffered_read :
    after (exec (.ldaAbs 0x2007) { start [] with ppu := { (start []).ppu with v := 0x2345, vram := [(0x2345, 0x77)] } }) (fun t =>
      t.a == 0x00 && t.ppu.readBuffer == 0x77 && t.ppu.v == 0x2346) = true := by
  decide

/-- 95_test_vectors.md P7v. -/
theorem test_ppu_v_wraps :
    after (exec (.staAbs 0x2007) { start [] with a := 0x2C, ppu := { (start []).ppu with v := 0x7FFF } }) (fun t =>
      t.ppu.vram == [(0x3F1F, 0x2C)] && t.ppu.v == 0x0000) = true := by
  decide

/-- 95_test_vectors.md P10v. -/
theorem test_ppu_oam_write :
    after (exec (.staAbs 0x2004) { start [] with a := 0xAB, ppu := { (start []).ppu with oamAddr := 0xFF } }) (fun t =>
      t.ppu.oam == [(0xFF, 0xAB)] && t.ppu.oamAddr == 0x00) = true := by
  decide

/-- 95_test_vectors.md E3. -/
theorem test_dma_request :
    after (exec (.staAbs 0x4014) { start [] with a := 0x02 }) (fun t =>
      t.dmaSrc == 0x0200 && t.dmaPending && t.mem == []) = true := by
  decide

/-! The step, the PPU and the boundary. -/

/-- R150, R602: the placed instruction is fetched, decoded and run. -/
theorem test_step_runs_placed_instruction :
    after (step (State.reset.withFetchWord 16 0x10A9)) (fun t => t.a == 0x10 && t.pc == 0x0002 && t.cycles == 2) = true := by
  decide

/-- 95_test_vectors.md E1. -/
theorem test_nmi_entry :
    after (step { start [] with
      pc := 0x8009, p := ⟨false, false, true, false, false, true⟩, nmiPending := true, master := 1 }) (fun t =>
        t.mem == [(0x1FB, 0xA4), (0x1FC, 0x09), (0x1FD, 0x80)] && t.sp == 0xFA && t.p.i && t.pc == 0x0000 &&
          !t.nmiPending && t.cycles == 7) = true := by
  decide

/-- 95_test_vectors.md E2. -/
theorem test_nmi_before_dma :
    after (step { start [] with nmiPending := true, dmaPending := true, master := 1 }) (fun t =>
      t.dmaPending && !t.nmiPending) = true := by
  decide

/-- R507, R543, R550, worked by hand: the first 16 bytes of a DMA transfer from page $20 read $2007 twice, so v moves
by 2. -/
theorem test_dma_from_ppu_registers :
    (let t := State.dmaCopy 16 { start [] with
        dmaSrc := 0x2000
        ppu := { (start []).ppu with vblank := true, w := true, ioLatch := 0x15, oamAddr := 0xFF } };
      t.ppu.v == 0x02 && !t.ppu.vblank && !t.ppu.w && t.ppu.oamAddr == 0xFF && t.ppu.oam.read 0xFF == 0x15 &&
        t.ppu.oam.read 0x01 == 0x95 && t.ppu.oam.read 0x09 == 0x15) = true := by
  set_option maxRecDepth 4000 in decide

/-- 95_test_vectors.md E5. -/
theorem test_jammed_core_lets_time_pass :
    after (step { start [] with jammed := true, cycles := 100, master := 500 }) (fun t =>
      decide (t = { start [] with jammed := true, cycles := 500, master := 500 })) = true := by
  decide

/-- 95_test_vectors.md P11v: the dot that enters (241, 1). -/
theorem test_ppu_enters_vblank :
    after (step { start [] with master := 30000, cycles := 30000, ppu := { (start []).ppu with
      scanline := 241, ctrl := 0x80 } }) (fun t => t.ppu.position == (241, 1) && t.ppu.vblank && t.nmiPending) = true := by
  decide

/-- 95_test_vectors.md P12v. -/
theorem test_ppu_odd_frame_skips_a_dot :
    (State.ppuStep { start [] with ppu := { (start []).ppu with scanline := 261, dot := 339, frame := 1 } }).ppu.position =
      (0, 0) := by
  decide

/-- 95_test_vectors.md P13v. -/
theorem test_ppu_even_frame_keeps_the_dot :
    (State.ppuStep { start [] with ppu := { (start []).ppu with scanline := 261, dot := 339 } }).ppu.position =
      (261, 340) := by
  decide

/-- 95_test_vectors.md P8v. -/
theorem test_ppu_reloads_the_address :
    (State.ppuStep { start [] with ppu := { (start []).ppu with
      scanline := 260, dot := 340, mask := 0x08, t := 0x1234 } }).ppu.v = 0x1234 := by
  decide

/-- 95_test_vectors.md P6v: the scroll pair. -/
theorem test_ppu_scroll_pair :
    (((((start []).ppu.regWrite 0 0x03).regWrite 5 0x7D).regWrite 5 0x5E).t,
      ((((start []).ppu.regWrite 0 0x03).regWrite 5 0x7D).regWrite 5 0x5E).x) = (0x6D6F, 5) := by
  decide

/-- 95_test_vectors.md 1.2: the address pair, then data. -/
theorem test_ppu_address_pair :
    ((((start []).ppu.regWrite 6 0x23).regWrite 6 0x45).regWrite 7 0x77).vram = [(0x2345, 0x77)] := by
  decide

/-- 95_test_vectors.md 1.4: the name-table pairs and the palette aliases. -/
theorem test_ppu_redirection :
    [ppuRedirect .vertical 0x2800, ppuRedirect .vertical 0x2C00, ppuRedirect .horizontal 0x2400,
        ppuRedirect .horizontal 0x3EFF, ppuRedirect .singleLower 0x2FFF, ppuRedirect .singleUpper 0x2000,
        ppuRedirect .vertical 0x3F10, ppuRedirect .vertical 0x3FFF, ppuRedirect .vertical 0x7F00] =
      [0x2000, 0x2400, 0x2000, 0x26FF, 0x23FF, 0x2400, 0x3F00, 0x3F1F, 0x3F00] := by
  decide

/-! Each statement with hypotheses has a state and operands that meet them, named witness_<statement>; where its clauses
split, one for each clause, at the ends of its range. -/

/-- Power-on, with the bytes at PC and the CPU's loop due. -/
def running (mem : Mem) : State := { start mem with master := 1 }

/-- The instruction's mnemonic. -/
def mn (i : Instr) : String := i.row.mnemonic

theorem witness_DecodeInvertsEncode :
    Instr.wellFormed (.staAbs 0xFFFF) = true := by
  decide

theorem witness_DecodedBytesAreTheEncoding :
    decode [0x8D, 0xFF, 0xFF, 0xEA] = .ok (.staAbs 0xFFFF, [0xEA]) := by
  rfl

/-- The instruction lies across the top of the address space: its operand is fetched from $0000. -/
theorem witness_StepRunsDecodedInstruction :
    let s : State := { running [(0x0000, 0x10), (0xFFFF, 0xA9)] with pc := 0xFFFF }
    s.cycles < s.master ∧
      s.stop = false ∧
      s.jammed = false ∧
      s.refused = false ∧
      s.nmiPending = false ∧
      s.irqLine = false ∧
      s.dmaPending = false ∧
      Instr.wellFormed (.ldaImm 0x10) = true ∧
      (∀ n < (encode (.ldaImm 0x10)).length, fetchesStorage (s.pc + BitVec.ofNat 16 n) = true ∧
        s.mem.read (redirect (s.pc + BitVec.ofNat 16 n)).toNat = (encode (.ldaImm 0x10)).getD n 0) := by
  decide

theorem witness_StepRunsDecodedInstruction_fetched :
    decode (running [(0x0600, 0xA9), (0x0601, 0x10)]).fetchInstr.1 = .ok (.ldaImm 0x10, []) := by
  rfl

theorem witness_PlacedInstructionRunsNext :
    decodeTableWord 16 0x10A9 = some (.ldaImm 0x10) ∧ decodeTableWord 24 0xFFFF8D = some (.staAbs 0xFFFF) := by
  decide

/-- A step that stores. -/
theorem witness_StepKeepsWellFormedState :
    let s := running [(0x0600, 0x8D), (0x0601, 0x05), (0x0602, 0x02)]
    State.wf { s with a := 0x77 } = true ∧
      after (step { s with a := 0x77 }) (fun t => t.mem.read 0x0205 == 0x77) = true := by
  decide

/-- A step answers a next state, and each clause has its end addresses. -/
theorem witness_ReadOnlyCellsNeverChange :
    goesOn (running [(0x0600, 0x8D), (0x0601, 0x00), (0x0602, 0x80)]) = true ∧
      ∀ a ∈ [0x0800, 0x3FFF, 0x4014, 0x4016, 0x8000, 0xFFFF],
        (0x0800 ≤ a ∧ a < 0x4000) ∨ a = 0x4014 ∨ a = 0x4016 ∨
          (0x4018 ≤ a ∧ (start []).mapperRange.first.toNat ≤ a ∧ a ≤ (start []).mapperRange.last.toNat) := by
  decide

theorem witness_StoppedMachineOnlyCountsTime :
    let s := { start [] with stop := true }
    s.stop = true ∧ s.hostSteps = 1 :: [] ∧ { s with hostSteps := [] }.hostSteps = [] := by
  decide

/-- BRK stops, JAM jams, SHA is refused; a step from stop = 0 that sets stop; steps with each mark set. -/
theorem witness_OnlyBrkStopsTheMachine :
    after (exec .brk (start [])) (fun t => t.stop) = true ∧
      after (exec .jam02 (start [])) (fun t => t.jammed) = true ∧
      after (exec (.shaAbsY 0x0200) { start [] with params := refusing }) (fun t => t.refused) = true ∧
      (running []).stop = false ∧
      after (step (running [])) (fun t => t.stop) = true ∧
      goesOn { start [] with stop := true } = true ∧
      goesOn { start [] with jammed := true } = true ∧
      goesOn { start [] with refused := true } = true := by
  decide

theorem witness_DecimalFlagIsInert :
    mn (.adcImm 0x12) ∉ ["PHP", "BRK", "SED", "CLD", "PLP", "RTI"] ∧
      after (exec (.adcImm 0x12) (start [])) (fun _ => true) = true := by
  decide

theorem witness_CyclesAreBaseCountPlusPagePenalty :
    (resolve (Instr.operand (.ldaAbsX 0x02FF)) { start [] with x := 0x01 }).1.cross = true ∧
      (Instr.operand (.ldaAbsX 0x02FF)).mode ≠ .relative ∧
      mn (.ldaAbsX 0x02FF) ≠ "JAM" ∧
      (Instr.operand (.bne 0x12)).mode = .relative ∧
      mn .jam02 = "JAM" := by
  decide

/-- The fetch passes the top of the address space. -/
theorem witness_PcPassesTheInstruction :
    mn (.ldaImm 0x10) ∉ ["JMP", "JSR", "RTS", "RTI", "BRK"] ∧
      (Instr.operand (.ldaImm 0x10)).mode ≠ .relative ∧
      after (exec (.ldaImm 0x10) (start [])) (fun _ => true) = true := by
  decide

theorem witness_PcPassesTheInstruction_fetch :
    decode { start [(0x0000, 0x10), (0xFFFF, 0xA9)] with pc := 0xFFFF }.fetchInstr.1 = .ok (.ldaImm 0x10, []) := by
  rfl

/-- A state for each clause: jammed, refused, NMI, IRQ, DMA, instruction; a dot; the host's next step. -/
theorem witness_DispatchAndCoordinatorOrder :
    (∀ s ∈ [{ running [] with jammed := true }, { running [] with refused := true },
          { running [] with nmiPending := true, irqLine := true, dmaPending := true },
          { running [] with irqLine := true, dmaPending := true, p := { (start []).p with i := false } },
          { running [] with irqLine := true, dmaPending := true }, { running [] with dmaPending := true }, running []],
        s.stop = false ∧ s.cycles < s.master) ∧
      (let s := { start [] with master := 1, cycles := 1 }; s.stop = false ∧ s.master ≤ s.cycles ∧ s.ppu.done < 3 * s.master) ∧
      (let s := start []; s.stop = false ∧ s.master ≤ s.cycles ∧ 3 * s.master ≤ s.ppu.done ∧ s.hostSteps = 1 :: []) := by
  decide

theorem witness_NmiEntrySavesAndVectors :
    goesOn { running [] with nmiPending := true } = true ∧ { running [] with nmiPending := true }.nmiPending = true := by
  decide

/-- Pages $02 and $FF. -/
theorem witness_DmaCopiesOnePage :
    ∀ i < 256, fetchesStorage ((0x0200 : Addr) + BitVec.ofNat 16 i) = true ∧
      fetchesStorage ((0xFF00 : Addr) + BitVec.ofNat 16 i) = true := by
  set_option maxRecDepth 4000 in decide

/-- The first and the last page of PPU registers, and the page of the controllers. -/
theorem witness_DmaCopiesOnePage_devices :
    (∀ page ∈ [0x20, 0x3F], 0x20 ≤ page ∧ page < 0x40 ∧
        { start [] with dmaSrc := BitVec.ofNat 16 (page * 0x100) }.dmaSrc = BitVec.ofNat 16 (page * 0x100)) ∧
      { start [] with dmaSrc := 0x4000 }.dmaSrc = 0x4000 := by
  decide

theorem witness_BrkTakesTheTrapAndStops :
    after (exec .brk (start [])) (fun _ => true) = true := by
  decide

theorem witness_LoadsSetRegisterAndNZ :
    mn (.ldaIndX 0x12) = "LDA" ∧
      mn (.ldxImm 0x12) = "LDX" ∧
      mn (.ldyImm 0x12) = "LDY" := by
  decide

theorem witness_StoresWriteOnce :
    mn (.staIndX 0x12) = "STA" ∧
      mn (.stxZp 0x12) = "STX" ∧
      mn (.styZp 0x12) = "STY" := by
  decide

theorem witness_AddAndSubtract :
    mn (.adcIndX 0x12) = "ADC" ∧
      mn (.sbcIndX 0x12) = "SBC" ∧
      mn (.usbcImm 0x12) = "USBC" := by
  decide

theorem witness_LogicWithAccumulator :
    mn (.andIndX 0x12) = "AND" ∧
      mn (.oraIndX 0x12) = "ORA" ∧
      mn (.eorIndX 0x12) = "EOR" := by
  decide

theorem witness_ComparesAndBitTest :
    mn (.cmpIndX 0x12) = "CMP" ∧
      mn (.cpxImm 0x12) = "CPX" ∧
      mn (.cpyImm 0x12) = "CPY" ∧
      mn (.bitZp 0x12) = "BIT" := by
  decide

theorem witness_IncrementAndDecrementMemory :
    mn (.incZp 0x12) = "INC" ∧
      mn (.decZp 0x12) = "DEC" := by
  decide

theorem witness_ShiftsAndRotates :
    mn .aslAcc = "ASL" ∧
      (Instr.operand .aslAcc).mode = .accumulator ∧
      mn (.aslZp 0xFF) = "ASL" ∧
      (Instr.operand (.aslZp 0xFF)).mode ≠ .accumulator ∧
      mn .lsrAcc = "LSR" ∧
      (Instr.operand .lsrAcc).mode = .accumulator ∧
      mn (.lsrZp 0xFF) = "LSR" ∧
      (Instr.operand (.lsrZp 0xFF)).mode ≠ .accumulator ∧
      mn .rolAcc = "ROL" ∧
      (Instr.operand .rolAcc).mode = .accumulator ∧
      mn (.rolZp 0xFF) = "ROL" ∧
      (Instr.operand (.rolZp 0xFF)).mode ≠ .accumulator ∧
      mn .rorAcc = "ROR" ∧
      (Instr.operand .rorAcc).mode = .accumulator ∧
      mn (.rorZp 0xFF) = "ROR" ∧
      (Instr.operand (.rorZp 0xFF)).mode ≠ .accumulator := by
  decide

theorem witness_FlagOperationsAndNops :
    mn .nop = "NOP" ∧
      mn (.nopAbsX1C 0x12FF) = "NOP" ∧
      mn (.nopImm80 0x12) = "NOP" := by
  decide

theorem witness_IllegalReadModifyWrite :
    mn (.sloIndX 0x12) = "SLO" ∧
      mn (.rlaIndX 0x12) = "RLA" ∧
      mn (.sreIndX 0x12) = "SRE" ∧
      mn (.rraIndX 0x12) = "RRA" ∧
      mn (.dcpIndX 0x12) = "DCP" ∧
      mn (.iscIndX 0x12) = "ISC" := by
  decide

theorem witness_CombinedLoadsAndStores :
    mn (.saxIndX 0x12) = "SAX" ∧
      mn (.laxIndX 0x12) = "LAX" ∧
      mn (.lasAbsY 0x1234) = "LAS" := by
  decide

theorem witness_UnstableStores :
    mn (.shaIndY 0x12) = "SHA" ∧
      mn (.shxAbsY 0x1234) = "SHX" ∧
      mn (.shyAbsX 0x1234) = "SHY" ∧
      mn (.tasAbsY 0x1234) = "TAS" ∧
      params.unstableStore = .common ∧
      refusing.unstableStore = .refuse ∧
      (let s := { running [] with refused := true }; s.refused = true ∧ s.stop = false ∧ s.cycles < s.master) := by
  decide

theorem witness_JamHaltsOrDoesNothing :
    mn .jam02 = "JAM" ∧
      mn .jamF2 = "JAM" ∧
      params.jamPolicy = .halt ∧
      jamNop.jamPolicy = .nop ∧
      (let s := { running [] with jammed := true }; s.jammed = true ∧ s.stop = false ∧ s.cycles < s.master) ∧
      goesOn { running [] with jammed := true } = true := by
  decide

/-- The ends of each clause. -/
theorem witness_BusReadByAddress :
    (∀ a ∈ [0x0000, 0x1FFF], storageIndex a < 0x2000) ∧
      (∀ a ∈ [0x2000, 0x3FFF], 0x2000 ≤ storageIndex a ∧ storageIndex a < 0x4000) ∧
      storageIndex 0x4016 = 0x4016 ∧ storageIndex 0x4017 = 0x4017 ∧
      ∀ a ∈ [0x4000, 0x4015, 0x4018, 0xFFFF], 0x4000 ≤ storageIndex a ∧ storageIndex a ≠ 0x4016 ∧ storageIndex a ≠ 0x4017 := by
  decide

/-- The ends of each clause. -/
theorem witness_BusWriteByAddress :
    let g := (start []).mapperRange
    g.wellFormed = true ∧
      (∀ a ∈ [0x0000, 0x1FFF], storageIndex a < 0x2000) ∧
      (∀ a ∈ [0x2000, 0x3FFF], 0x2000 ≤ storageIndex a ∧ storageIndex a < 0x4000) ∧
      storageIndex 0x4014 = 0x4014 ∧ storageIndex 0x4016 = 0x4016 ∧
      (∀ a ∈ [0x8000, 0xFFFF], g.first.toNat ≤ storageIndex a ∧ storageIndex a ≤ g.last.toNat) ∧
      ∀ a ∈ [0x4000, 0x4013, 0x4015, 0x4017, 0x4018, 0x7FFF], 0x4000 ≤ storageIndex a ∧ storageIndex a ≠ 0x4014 ∧
        storageIndex a ≠ 0x4016 ∧ ¬ (g.first.toNat ≤ storageIndex a ∧ storageIndex a ≤ g.last.toNat) := by
  decide

/-- The ends of each clause. -/
theorem witness_BusReadSideEffects :
    (∀ a ∈ [0x0000, 0x1FFF, 0x2000, 0x2004, 0x4015, 0xFFFF], storageIndex a ∉ [0x2002, 0x2007, 0x4016, 0x4017]) ∧
      (∀ a ∈ [0x2002, 0x3FFA], storageIndex a = 0x2002) ∧ (∀ a ∈ [0x2007, 0x3FFF], storageIndex a = 0x2007) ∧
      (∀ a ∈ [0x4016, 0x4017], storageIndex a ∈ [0x4016, 0x4017]) ∧
      ∀ a ∈ [0x0000, 0x1FFF, 0x4000, 0x4013, 0x4015, 0x4017, 0xFFFF], storageIndex a < 0x2000 ∨
        0x4017 ≤ storageIndex a ∨ storageIndex a ∈ [0x4015] ∨ (0x4000 ≤ storageIndex a ∧ storageIndex a < 0x4014) := by
  decide

/-- The ends of each clause. -/
theorem witness_PpuRedirection :
    (∀ b ∈ [0x0000, 0x1FFF], b < 0x2000) ∧ (∀ b ∈ [0x2000, 0x3EFF], 0x2000 ≤ b ∧ b < 0x3F00) ∧
      ∀ b ∈ [0x3F00, 0x3FFF], 0x3F00 ≤ b := by
  decide

/-- Video addresses at the ends of the two clauses of $2007; each register that reads the latch. -/
theorem witness_PpuRegisterReads :
    (0x0000#15).toNat % 0x4000 < 0x3F00 ∧
      (0x3EFF#15).toNat % 0x4000 < 0x3F00 ∧
      0x3F00 ≤ (0x3F00#15).toNat % 0x4000 ∧
      0x3F00 ≤ (0x7FFF#15).toNat % 0x4000 ∧
      0#3 ∈ [0#3, 1#3, 3#3, 5#3, 6#3] ∧
      6#3 ∈ [0#3, 1#3, 3#3, 5#3, 6#3] := by
  decide

/-- Both values of the toggle. -/
theorem witness_PpuRegisterWrites :
    (start []).ppu.w = false ∧ { (start []).ppu with w := true }.w = true := by
  decide

theorem witness_AddressWritePairThenData :
    (start []).ppu.w = false := by
  decide

/-- The start of an even and of an odd frame; a step that ends a frame, and one that does not. -/
theorem witness_FrameLength :
    (start []).ppu.position = (0, 0) ∧
      { (start []).ppu with frame := 1 }.position = (0, 0) ∧
      after (step { running [] with cycles := 1, ppu := { (start []).ppu with scanline := 261, dot := 340 } })
        (fun t => t.ppu.frame == 1 && t.ppu.position == (0, 0)) = true ∧
      goesOn (running []) = true := by
  decide

/-- The ends of the window, and the step that sets vblank and the request. -/
theorem witness_VblankWindow :
    (start []).ppu.position = (0, 0) ∧
      (start []).ppu.vblank = false ∧
      (start []).nmiPending = false ∧
      (∀ k ∈ [0, 82181, 82182, 89000, 89001, 89341], k < if (start []).ppu.frame % 2 = 0 then 89342 else 89341) ∧
      (let u := { (start []).ppu with frame := 1 }; 89340 < if u.frame % 2 = 0 then 89342 else 89341) ∧
      (let s := { running [] with cycles := 1, ppu := { (start []).ppu with scanline := 241, ctrl := 0x80 } };
        s.ppu.vblank = false ∧ s.nmiPending = false ∧
          after (step s) (fun t => t.ppu.vblank && t.nmiPending && t.ppu.position == (241, 1)) = true) := by
  decide

/-- The smallest and the largest cartridge, and the bounds of the image clauses. -/
theorem witness_LoadPlacesTheImages :
    Cartridge.wellFormed ⟨List.replicate 16384 0x01, [], .horizontal⟩ = true ∧
      Cartridge.wellFormed ⟨List.replicate 32768 0x01, List.replicate 8192 0x02, .vertical⟩ = true := by
  constructor <;> rw [Cartridge.wellFormed] <;> simp only [List.length_replicate, List.length_nil] <;> decide

/-- The fields a file of 16,400 bytes has. -/
def smallFile : List Byte := romMagic ++ [0x01, 0x00, 0x00] ++ List.replicate 9 0x00 ++ List.replicate 16384 0x00

/-- A file that meets the conditions, at the least length. -/
theorem witness_LoadAcceptsOnlyTheFixedMapper :
    let at' := fun n : Nat => smallFile.getD n 0
    let flags7 := if at' 7 = 0x44 then 0 else at' 7
    let trainer := if (at' 6).getLsbD 2 then 512 else 0
    16 ≤ smallFile.length ∧ smallFile.take 4 = [0x4E, 0x45, 0x53, 0x1A] ∧
      (flags7 >>> 4 = 0 ∧ at' 6 >>> 4 = 0) ∧ (at' 4 = 1 ∨ at' 4 = 2) ∧ (at' 5 = 0 ∨ at' 5 = 1) ∧
      16 + trainer + 16384 * (at' 4).toNat + 8192 * (at' 5).toNat ≤ smallFile.length := by
  have h : smallFile.length = 16400 := by simp only [smallFile, List.length_append, List.length_replicate]; rfl
  intro at' flags7 trainer
  rw [h]
  have h4 : at' 4 = 1 := rfl
  have h5 : at' 5 = 0 := rfl
  have h6 : at' 6 = 0 := rfl
  have h7 : flags7 = 0 := rfl
  have ht : trainer = 0 := by
    show (if (at' 6).getLsbD 2 then 512 else 0) = 0
    rw [h6]; decide
  rw [h4, h5, h6, h7, ht]
  exact ⟨by omega, rfl, by decide, by decide, by decide, by decide⟩

/-- A file that does not: it has no header. -/
theorem witness_LoadAcceptsOnlyTheFixedMapper_refused : ¬ 16 ≤ ([] : List Byte).length := by decide

theorem witness_RegistersChangeOnlyByTheirWriters :
    mn (.staAbs 0x0200) ∉
        ["ADC", "AND", "EOR", "LDA", "ORA", "SBC", "PLA", "TXA", "TYA", "LAX", "LAS", "SLO", "RLA"] ++ ["SRE", "RRA", "ISC", "ANC", "ALR", "ARR", "ANE", "LXA", "USBC"] ∧
      (Instr.operand (.staAbs 0x0200)).mode ≠ .accumulator ∧
      mn (.staAbs 0x0200) ∉ ["LDX", "DEX", "INX", "TAX", "TSX", "LAX", "LAS", "LXA", "SBX"] ∧
      mn (.staAbs 0x0200) ∉ ["LDY", "DEY", "INY", "TAY"] ∧
      mn (.staAbs 0x0200) ∉ ["PHA", "PHP", "PLA", "PLP", "JSR", "RTS", "RTI", "BRK", "TXS", "TAS", "LAS"] ∧
      mn (.adcAbs 0x0200) ∉
        ["STA", "STX", "STY", "SAX", "INC", "DEC", "ASL", "LSR", "ROL", "ROR", "SLO", "RLA"] ++ ["SRE", "RRA", "DCP", "ISC", "SHA", "SHX", "SHY", "TAS"] ∧
      after (exec (.staAbs 0x0200) (start [])) (fun _ => true) = true ∧
      after (exec (.adcAbs 0x0200) (start [])) (fun _ => true) = true := by
  decide

theorem witness_FlagsChangeOnlyByTheirWriters :
    mn (.staAbs 0x0200) ∉
        ["ADC", "SBC", "CMP", "CPX", "CPY", "ASL", "LSR", "ROL", "ROR", "CLC", "SEC", "PLP"] ++ ["RTI", "SLO", "RLA", "SRE", "RRA", "DCP", "ISC", "ANC", "ALR", "ARR", "SBX", "USBC"] ∧
      mn (.staAbs 0x0200) ∉
        ["LDA", "LDX", "LDY", "TAX", "TAY", "TXA", "TYA", "TSX", "PLA", "PLP", "ADC", "SBC", "AND", "ORA", "EOR"] ++
          ["CMP", "CPX", "CPY", "BIT", "INC", "DEC", "INX", "INY", "DEX", "DEY", "ASL", "LSR", "ROL", "ROR", "RTI"] ++
          ["SLO", "RLA", "SRE", "RRA", "DCP", "ISC", "LAX", "LAS", "ANC", "ALR", "ARR", "SBX", "USBC", "ANE", "LXA"] ∧
      mn (.staAbs 0x0200) ∉ ["SEI", "CLI", "PLP", "RTI", "BRK"] ∧
      mn (.staAbs 0x0200) ∉ ["SED", "CLD", "PLP", "RTI"] ∧
      mn (.staAbs 0x0200) ∉ ["ADC", "SBC", "BIT", "CLV", "PLP", "RTI", "RRA", "ISC", "ARR", "USBC"] ∧
      after (exec (.staAbs 0x0200) (start [])) (fun _ => true) = true := by
  decide

/-- One instruction for each clause; each completes. -/
theorem witness_MemoryChangesOnlyWhereStored :
    ∀ i ∈ [Instr.staAbs 0x0200, .aslAcc, .incZp 0xFF, .pha, .jsr 0x8000, .brk, .shaAbsY 0x02FF, .tasAbsY 0x02FF,
        .shxAbsY 0x02FF, .shyAbsX 0x02FF, .ldaAbs 0x0200],
      after (exec i { start [] with sp := 0x00, x := 0x01, y := 0x01 }) (fun _ => true) = true := by
  decide

end Sys2Proof.Tests
end

section
/-! SUPPORT. What an operation may change, in aspects of the state: a footprint for each shared operation, stated after
what went before it, so that the footprint of a handler is the chain of its operations. -/

namespace Sys2Proof.Machine

/-- The parts of a state that an operation either keeps or may change: the registers, the flags as R39 groups their
writers, the cycle counter, the three marks (R44–R46), the NMI request, memory, what bus writes reach beside it (the DMA
request, video memory, OAM, the PPU's write registers), what no instruction reaches, and well-formedness. What a bus
read may change (R103) stands in none of them. -/
inductive Aspect where
  | a | x | y | sp | pc
  | carry | zeroNegative | interruptDisable | decimal | overflow
  | cycles | stop | jammed | refused | nmiPending
  | memory | device | outside | wellFormed
  deriving DecidableEq

/-- The aspect is the same in `t` as in `s`; well-formedness carries over from `s` to `t`. -/
def Aspect.Kept (s t : State) : Aspect → Prop
  | .a => t.a = s.a
  | .x => t.x = s.x
  | .y => t.y = s.y
  | .sp => t.sp = s.sp
  | .pc => t.pc = s.pc
  | .carry => t.p.c = s.p.c
  | .zeroNegative => t.p.z = s.p.z ∧ t.p.n = s.p.n
  | .interruptDisable => t.p.i = s.p.i
  | .decimal => t.p.d = s.p.d
  | .overflow => t.p.v = s.p.v
  | .cycles => t.cycles = s.cycles
  | .stop => t.stop = s.stop
  | .jammed => t.jammed = s.jammed
  | .refused => t.refused = s.refused
  | .nmiPending => t.nmiPending = s.nmiPending
  | .memory => t.mem = s.mem
  | .device =>
    t.dmaSrc = s.dmaSrc ∧ t.dmaPending = s.dmaPending ∧ t.ppu.oam = s.ppu.oam ∧ t.ppu.vram = s.ppu.vram ∧
      t.ppu.ctrl = s.ppu.ctrl ∧ t.ppu.mask = s.ppu.mask ∧ t.ppu.oamAddr = s.ppu.oamAddr ∧
      t.ppu.ioLatch = s.ppu.ioLatch ∧ t.ppu.t = s.ppu.t ∧ t.ppu.x = s.ppu.x
  | .outside =>
    t.irqLine = s.irqLine ∧ t.master = s.master ∧ t.mapperRange = s.mapperRange ∧ t.params = s.params ∧
      t.hostSteps = s.hostSteps ∧ t.ppu.position = s.ppu.position ∧ t.ppu.frame = s.ppu.frame ∧
      t.ppu.done = s.ppu.done ∧ t.ppu.sprite0Hit = s.ppu.sprite0Hit ∧ t.ppu.spriteOverflow = s.ppu.spriteOverflow ∧
      t.ppu.mirroring = s.ppu.mirroring
  | .wellFormed => s.wf = true → t.wf = true

/-- From `s` to `t` at most the aspects `ps` change. -/
def ChangesOnly (ps : List Aspect) (s t : State) : Prop := ∀ q ∉ ps, q.Kept s t

theorem Aspect.Kept.refl (q : Aspect) (s : State) : q.Kept s s := by
  cases q <;> simp [Aspect.Kept]

theorem Aspect.Kept.trans {q : Aspect} {s t u : State} (h : q.Kept s t) (k : q.Kept t u) : q.Kept s u := by
  cases q <;> simp_all [Aspect.Kept]

namespace ChangesOnly

theorem refl (s : State) : ChangesOnly [] s s := fun q _ => .refl q s

variable {ps qs : List Aspect} {s t u : State}

/-- Two operations in a row change at most what the later and what the earlier one changes. -/
theorem trans (h : ChangesOnly ps s t) (k : ChangesOnly qs t u) : ChangesOnly (qs ++ ps) s u := fun q hq =>
  (h q fun hp => hq (List.mem_append_right qs hp)).trans (k q fun hk => hq (List.mem_append_left ps hk))

theorem mono (h : ChangesOnly ps s t) (hs : ps ⊆ qs) : ChangesOnly qs s t := fun q hq => h q fun hp => hq (hs hp)

/-! The register updates, each after what went before it. -/

theorem setA (h : ChangesOnly ps s t) (b : Byte) : ChangesOnly (.a :: ps) s (t.setA b) :=
  h.trans (qs := [.a]) fun q hq => by cases q <;> simp_all [Aspect.Kept, State.wf]

theorem setX (h : ChangesOnly ps s t) (b : Byte) : ChangesOnly (.x :: ps) s (t.setX b) :=
  h.trans (qs := [.x]) fun q hq => by cases q <;> simp_all [Aspect.Kept, State.wf]

theorem setY (h : ChangesOnly ps s t) (b : Byte) : ChangesOnly (.y :: ps) s (t.setY b) :=
  h.trans (qs := [.y]) fun q hq => by cases q <;> simp_all [Aspect.Kept, State.wf]

theorem setSp (h : ChangesOnly ps s t) (b : Byte) : ChangesOnly (.sp :: ps) s (t.setSp b) :=
  h.trans (qs := [.sp]) fun q hq => by cases q <;> simp_all [Aspect.Kept, State.wf]

theorem setPc (h : ChangesOnly ps s t) (w : Addr) : ChangesOnly (.pc :: ps) s (t.setPc w) :=
  h.trans (qs := [.pc]) fun q hq => by cases q <;> simp_all [Aspect.Kept, State.wf]

theorem setNZ (h : ChangesOnly ps s t) (b : Byte) : ChangesOnly (.zeroNegative :: ps) s (t.setNZ b) :=
  h.trans (qs := [.zeroNegative]) fun q hq => by cases q <;> simp_all [Aspect.Kept, State.wf]

theorem addCycles (h : ChangesOnly ps s t) (n : Nat) : ChangesOnly (.cycles :: ps) s (t.addCycles n) :=
  h.trans (qs := [.cycles]) fun q hq => by cases q <;> simp_all [Aspect.Kept, State.wf]

theorem setStop (h : ChangesOnly ps s t) : ChangesOnly (.stop :: ps) s { t with stop := true } :=
  h.trans (qs := [.stop]) fun q hq => by cases q <;> simp_all [Aspect.Kept, State.wf]

theorem setJammed (h : ChangesOnly ps s t) : ChangesOnly (.jammed :: ps) s { t with jammed := true } :=
  h.trans (qs := [.jammed]) fun q hq => by cases q <;> simp_all [Aspect.Kept, State.wf]

theorem setRefused (h : ChangesOnly ps s t) : ChangesOnly (.refused :: ps) s { t with refused := true } :=
  h.trans (qs := [.refused]) fun q hq => by cases q <;> simp_all [Aspect.Kept, State.wf]

theorem clearNmi (h : ChangesOnly ps s t) : ChangesOnly (.nmiPending :: ps) s { t with nmiPending := false } :=
  h.trans (qs := [.nmiPending]) fun q hq => by cases q <;> simp_all [Aspect.Kept, State.wf]

theorem clearDma (h : ChangesOnly ps s t) : ChangesOnly (.device :: ps) s { t with dmaPending := false } :=
  h.trans (qs := [.device]) fun q hq => by cases q <;> simp_all [Aspect.Kept, State.wf]

end ChangesOnly

/-- The five aspects of the status register (R36). -/
def flagAspects : List Aspect := [.carry, .zeroNegative, .interruptDisable, .decimal, .overflow]

/-- Writing P changes at most the flags that differ. -/
theorem ChangesOnly.setP {ps : List Aspect} {s t : State} (h : ChangesOnly ps s t) (qs : List Aspect) (p : Flags)
    (hp : ∀ f ∈ flagAspects, f ∉ qs → f.Kept t (t.setP p)) : ChangesOnly (qs ++ ps) s (t.setP p) :=
  h.trans fun q hq => by
    by_cases hf : q ∈ flagAspects
    · exact hp q hf hq
    · cases q <;> simp_all [Aspect.Kept, State.wf, flagAspects]

theorem State.wf_iff (s : State) :
    s.wf = true ↔ s.mem.wf 0x10000 = true ∧ s.ppu.vram.wf 0x4000 = true ∧ s.ppu.oam.wf 0x100 = true ∧
      s.ppu.positionWf = true ∧ s.mapperRange.wellFormed = true := by
  simp only [State.wf, Bool.and_eq_true, and_assoc]

/-- A bus write keeps the state well formed (R50, R52, R53). -/
theorem State.memWrite_wf (s : State) (a : Addr) (b : Byte) (h : s.wf = true) : (s.memWrite a b).wf = true := by
  obtain ⟨hm, hv, ho, hp, hr⟩ := s.wf_iff.mp h
  refine (State.wf_iff _).mpr ⟨s.memWrite_mem_wf a b hm, ?_, ?_, by simpa [Ppu.positionWf] using hp, by simpa using hr⟩
  · rcases s.memWrite_ppu a b with e | ⟨n, e⟩ <;> rw [e]
    · exact hv
    · exact s.ppu.regWrite_vram_wf n b hv
  · rcases s.memWrite_ppu a b with e | ⟨n, e⟩ <;> rw [e]
    · exact ho
    · exact s.ppu.regWrite_oam_wf n b ho

/-- A push keeps the state well formed (R40). -/
theorem State.push_wf (s : State) (b : Byte) (h : s.wf = true) : (s.push b).wf = true := by
  obtain ⟨hm, hv, ho, hp, hr⟩ := s.wf_iff.mp h
  rw [State.push_eq]
  exact (State.wf_iff _).mpr ⟨Mem.wf_write b (BitVec.isLt _) hm, hv, ho, hp, hr⟩

/-- A write of OAM keeps the state well formed (R53). -/
theorem State.oamWrite_wf (s : State) (k b : Byte) (h : s.wf = true) :
    ({ s with ppu := { s.ppu with oam := s.ppu.oam.write k.toNat b } } : State).wf = true := by
  obtain ⟨hm, hv, ho, hp, hr⟩ := s.wf_iff.mp h
  exact (State.wf_iff _).mpr ⟨hm, hv, Mem.wf_write b k.isLt ho, hp, hr⟩

/-- What a store may change: A through the accumulator reference, else what a bus write does (R17). -/
def storeAspects (acc : Bool) : List Aspect := if acc then [.a] else [.memory, .device]

/-- What an addition to A changes (R260). -/
def addAspects : List Aspect := [.carry, .zeroNegative, .overflow, .a]

/-- What taking an interrupt changes (R500). -/
def entryAspects : List Aspect := [.pc, .interruptDisable, .memory, .sp]

namespace ChangesOnly

variable {ps qs : List Aspect} {s t u : State}

/-! The bus, the operand accesses and the stack. -/

theorem memRead (h : ChangesOnly ps s t) (a : Addr) : ChangesOnly ps s (t.memRead a).2 :=
  h.trans (qs := []) fun q _ => by
    cases q <;> simp [Aspect.Kept, State.wf, Ppu.position, Ppu.positionWf]

theorem memWrite (h : ChangesOnly ps s t) (a : Addr) (b : Byte) :
    ChangesOnly (.memory :: .device :: ps) s (t.memWrite a b) :=
  h.trans (qs := [.memory, .device]) fun q hq => by
    cases q
    case wellFormed => exact t.memWrite_wf a b
    all_goals simp_all [Aspect.Kept, Ppu.position]

theorem readPair (h : ChangesOnly ps s t) (a b : Addr) : ChangesOnly ps s (t.readPair a b).2 :=
  (h.memRead a).memRead b

theorem resolve (h : ChangesOnly ps s t) (o : Operand) : ChangesOnly ps s (resolve o t).2 := by
  by_cases ho : o.mode = .indirect
  · cases o with
    | indirect w => exact h.readPair _ _
    | _ => cases ho
  · rw [resolve_state o t ho]; exact h

theorem operand (h : ChangesOnly ps s t) (d : Descriptor) : ChangesOnly ps s (t.operand d).2 := by
  cases d with
  | acc => exact h
  | imm k => exact h
  | addr a => exact h.memRead a

theorem store (h : ChangesOnly ps s t) (d : Descriptor) (b : Byte) :
    ChangesOnly (storeAspects (d == .acc) ++ ps) s (t.store d b) := by
  cases d with
  | acc => exact h.setA b
  | imm k => exact h.mono (List.subset_append_right _ ps)
  | addr a => exact h.memWrite a b

/-- The stack page is RAM, so a push reaches no device (R40). -/
theorem push (h : ChangesOnly ps s t) (b : Byte) : ChangesOnly (.memory :: .sp :: ps) s (t.push b) :=
  h.trans (qs := [.memory, .sp]) fun q hq => by
    cases q
    case wellFormed => exact t.push_wf b
    all_goals simp_all [Aspect.Kept, State.push_eq]

theorem pull (h : ChangesOnly ps s t) : ChangesOnly (.sp :: ps) s t.pull.2 :=
  (h.setSp (t.sp + 1)).memRead _

/-- The four shifts and rotates write no flag but C before the store (R277–R280). -/
theorem shiftOperand (h : ChangesOnly ps s t) (d : Descriptor) {f : Byte → Flags → Byte × Flags}
    (hf : ∀ b p, (f b p).2 = { p with c := (f b p).2.c }) :
    ChangesOnly (storeAspects (d == .acc) ++ .carry :: ps) s (t.shiftOperand d f).2 :=
  ((h.operand d).setP [.carry] _ (by rw [hf]; simp [flagAspects, Aspect.Kept])).store d _

theorem addToA (h : ChangesOnly ps s t) (b : Byte) : ChangesOnly (addAspects ++ ps) s (t.addToA b) :=
  (h.setA _).setP [.carry, .zeroNegative, .overflow] _ (by simp [flagAspects, Aspect.Kept])

theorem enterInterrupt (h : ChangesOnly ps s t) (ret : Addr) (b4 : Bool) (v : Addr) :
    ChangesOnly (entryAspects ++ ps) s (t.enterInterrupt ret b4 v) := by
  have pushed := (((refl t).push (hi ret)).push (lo ret)).push (t.p.pushedByte b4)
  refine h.trans ((((pushed.setP [.interruptDisable] _ ?_).readPair v (v + 1)).setPc _).mono (by decide))
  simp [flagAspects, Aspect.Kept, State.push16]

theorem returnFromInterrupt (h : ChangesOnly ps s t) :
    ChangesOnly (.pc :: .sp :: flagAspects ++ ps) s t.returnFromInterrupt := by
  have flags := (refl t).pull.setP flagAspects (Flags.ofPulledByte t.pull.1) fun f hf hn => absurd hf hn
  exact h.trans ((flags.pull.pull.setPc _).mono (by decide))

theorem branch (h : ChangesOnly ps s t) (taken : Bool) (r : Resolved) :
    ChangesOnly (.cycles :: .pc :: ps) s (branch taken r t) := by
  cases taken with
  | true => exact (h.setPc _).addCycles _
  | false => exact h.mono (by simp)

theorem jam (h : ChangesOnly ps s t) : ChangesOnly (.jammed :: .cycles :: ps) s t.jam := by
  rcases t.jam_cases with ⟨-, e⟩ | ⟨-, e⟩ <;> rw [e]
  · exact h.setJammed.mono (by simp)
  · exact (h.addCycles 2).mono (by simp)

theorem underUnstablePolicy (h : ChangesOnly ps s t) :
    ChangesOnly (.refused :: ps) s (s.underUnstablePolicy t) := by
  rcases s.underUnstablePolicy_cases t with ⟨-, e⟩ | ⟨-, e⟩ <;> rw [e]
  · exact h.mono (by simp)
  · exact (refl s).setRefused.mono (by simp)

/-! The fetch and the DMA transfer. -/

theorem fetch8 (h : ChangesOnly ps s t) : ChangesOnly (.pc :: ps) s t.fetch8.2 := (h.memRead _).setPc _

theorem fetchBytes (n : Nat) (t : State) : ChangesOnly [.pc] t (State.fetchBytes n t).2 := by
  induction n generalizing t with
  | zero => exact (refl t).mono (by simp)
  | succ n ih => exact ((refl t).fetch8.trans (ih _)).mono (by decide)

theorem fetchInstr (t : State) : ChangesOnly [.pc] t t.fetchInstr.2 :=
  ((refl t).fetch8.trans (fetchBytes _ _)).mono (by decide)

theorem dmaByte (h : ChangesOnly ps s t) (n : Nat) : ChangesOnly (.device :: ps) s (t.dmaByte n) :=
  (h.memRead (t.dmaSrc + BitVec.ofNat 16 n)).trans (qs := [.device]) fun q hq => by
    cases q
    case wellFormed => exact State.oamWrite_wf _ _ _
    all_goals simp_all [Aspect.Kept, State.dmaByte, Ppu.position]

theorem dmaCopy (n : Nat) (t : State) : ChangesOnly [.device] t (State.dmaCopy n t) := by
  induction n with
  | zero => exact (refl t).mono (by simp)
  | succ n ih => exact (ih.dmaByte n).mono (by decide)

theorem nmiEntry (t : State) : ChangesOnly (.cycles :: .nmiPending :: entryAspects) t t.nmiEntry :=
  (((refl t).clearNmi.enterInterrupt t.pc false nmiVector).addCycles _).mono (by decide)

theorem irqEntry (t : State) : ChangesOnly (.cycles :: entryAspects) t t.irqEntry :=
  (((refl t).enterInterrupt t.pc false irqVector).addCycles _).mono (by decide)

theorem dmaTransfer (t : State) : ChangesOnly [.cycles, .device] t t.dmaTransfer :=
  (((refl t).clearDma.trans (dmaCopy 256 _)).addCycles _).mono (by decide)

end ChangesOnly

end Sys2Proof.Machine
end

section
/-! SUPPORT. The handler of each mnemonic with its footprint, and what an instruction keeps. -/

namespace Sys2Proof.Machine

/-- `Meaning mn h fp`: the rows of mnemonic `mn` run the handler `h` (R151), which changes at most the aspects `fp acc`,
where `acc` says whether its operand is the accumulator reference. -/
inductive Meaning : String → Handler → (Bool → List Aspect) → Prop
  | adc : Meaning "ADC" adc fun _ => addAspects
  | sbc : Meaning "SBC" sbc fun _ => addAspects
  | usbc : Meaning "USBC" usbc fun _ => addAspects
  | and : Meaning "AND" and fun _ => [.zeroNegative, .a]
  | ora : Meaning "ORA" ora fun _ => [.zeroNegative, .a]
  | eor : Meaning "EOR" eor fun _ => [.zeroNegative, .a]
  | lda : Meaning "LDA" lda fun _ => [.zeroNegative, .a]
  | ldx : Meaning "LDX" ldx fun _ => [.zeroNegative, .x]
  | ldy : Meaning "LDY" ldy fun _ => [.zeroNegative, .y]
  | cmp : Meaning "CMP" cmp fun _ => [.carry, .zeroNegative]
  | cpx : Meaning "CPX" cpx fun _ => [.carry, .zeroNegative]
  | cpy : Meaning "CPY" cpy fun _ => [.carry, .zeroNegative]
  | bit : Meaning "BIT" bit fun _ => [.zeroNegative, .overflow]
  | sta : Meaning "STA" sta storeAspects
  | stx : Meaning "STX" stx storeAspects
  | sty : Meaning "STY" sty storeAspects
  | sax : Meaning "SAX" sax storeAspects
  | inc : Meaning "INC" inc fun acc => .zeroNegative :: storeAspects acc
  | dec : Meaning "DEC" dec fun acc => .zeroNegative :: storeAspects acc
  | inx : Meaning "INX" inx fun _ => [.zeroNegative, .x]
  | iny : Meaning "INY" iny fun _ => [.zeroNegative, .y]
  | dex : Meaning "DEX" dex fun _ => [.zeroNegative, .x]
  | dey : Meaning "DEY" dey fun _ => [.zeroNegative, .y]
  | tax : Meaning "TAX" tax fun _ => [.zeroNegative, .x]
  | tay : Meaning "TAY" tay fun _ => [.zeroNegative, .y]
  | txa : Meaning "TXA" txa fun _ => [.zeroNegative, .a]
  | tya : Meaning "TYA" tya fun _ => [.zeroNegative, .a]
  | tsx : Meaning "TSX" tsx fun _ => [.zeroNegative, .x]
  | txs : Meaning "TXS" txs fun _ => [.sp]
  | pha : Meaning "PHA" pha fun _ => [.memory, .sp]
  | php : Meaning "PHP" php fun _ => [.memory, .sp]
  | pla : Meaning "PLA" pla fun _ => [.zeroNegative, .a, .sp]
  | plp : Meaning "PLP" plp fun _ => flagAspects ++ [.sp]
  | asl : Meaning "ASL" asl fun acc => .zeroNegative :: storeAspects acc ++ [.carry]
  | lsr : Meaning "LSR" lsr fun acc => .zeroNegative :: storeAspects acc ++ [.carry]
  | rol : Meaning "ROL" rol fun acc => .zeroNegative :: storeAspects acc ++ [.carry]
  | ror : Meaning "ROR" ror fun acc => .zeroNegative :: storeAspects acc ++ [.carry]
  | slo : Meaning "SLO" slo fun acc => .zeroNegative :: .a :: storeAspects acc ++ [.carry]
  | rla : Meaning "RLA" rla fun acc => .zeroNegative :: .a :: storeAspects acc ++ [.carry]
  | sre : Meaning "SRE" sre fun acc => .zeroNegative :: .a :: storeAspects acc ++ [.carry]
  | rra : Meaning "RRA" rra fun acc => addAspects ++ storeAspects acc ++ [.carry]
  | dcp : Meaning "DCP" dcp fun acc => .carry :: .zeroNegative :: storeAspects acc
  | isc : Meaning "ISC" isc fun acc => addAspects ++ storeAspects acc
  | lax : Meaning "LAX" lax fun _ => [.zeroNegative, .x, .a]
  | las : Meaning "LAS" las fun _ => [.zeroNegative, .sp, .x, .a]
  | lxa : Meaning "LXA" lxa fun _ => [.zeroNegative, .x, .a]
  | ane : Meaning "ANE" ane fun _ => [.zeroNegative, .a]
  | anc : Meaning "ANC" anc fun _ => [.carry, .zeroNegative, .a]
  | alr : Meaning "ALR" alr fun _ => [.zeroNegative, .a, .carry]
  | arr : Meaning "ARR" arr fun _ => [.carry, .overflow, .zeroNegative, .a]
  | sbx : Meaning "SBX" sbx fun _ => [.zeroNegative, .x, .carry]
  | sha : Meaning "SHA" sha fun _ => [.refused, .memory, .device]
  | shx : Meaning "SHX" shx fun _ => [.refused, .memory, .device]
  | shy : Meaning "SHY" shy fun _ => [.refused, .memory, .device]
  | tas : Meaning "TAS" tas fun _ => [.refused, .memory, .device, .sp]
  | jam : Meaning "JAM" jam fun _ => [.jammed, .cycles]
  | nop : Meaning "NOP" nop fun _ => []
  | clc : Meaning "CLC" clc fun _ => [.carry]
  | sec : Meaning "SEC" sec fun _ => [.carry]
  | cli : Meaning "CLI" cli fun _ => [.interruptDisable]
  | sei : Meaning "SEI" sei fun _ => [.interruptDisable]
  | cld : Meaning "CLD" cld fun _ => [.decimal]
  | sed : Meaning "SED" sed fun _ => [.decimal]
  | clv : Meaning "CLV" clv fun _ => [.overflow]
  | jmp : Meaning "JMP" jmp fun _ => [.pc]
  | jsr : Meaning "JSR" jsr fun _ => [.pc, .memory, .sp, .memory, .sp]
  | rts : Meaning "RTS" rts fun _ => [.pc, .sp, .sp]
  | rti : Meaning "RTI" rti fun _ => .pc :: .sp :: flagAspects
  | brk : Meaning "BRK" brk fun _ => .stop :: entryAspects
  | bpl : Meaning "BPL" bpl fun _ => [.cycles, .pc]
  | bmi : Meaning "BMI" bmi fun _ => [.cycles, .pc]
  | bvc : Meaning "BVC" bvc fun _ => [.cycles, .pc]
  | bvs : Meaning "BVS" bvs fun _ => [.cycles, .pc]
  | bcc : Meaning "BCC" bcc fun _ => [.cycles, .pc]
  | bcs : Meaning "BCS" bcs fun _ => [.cycles, .pc]
  | bne : Meaning "BNE" bne fun _ => [.cycles, .pc]
  | beq : Meaning "BEQ" beq fun _ => [.cycles, .pc]

/-- Each handler changes at most its footprint: its operations' footprints, one after the other. -/
theorem Meaning.changes {mn : String} {h : Handler} {fp : Bool → List Aspect} (hm : Meaning mn h fp) (r : Resolved)
    (s : State) : ChangesOnly (fp (r.desc == .acc)) s (h r s) := by
  have start := ChangesOnly.refl s
  have read := start.operand r.desc
  cases hm with
  | adc | sbc | usbc => exact read.addToA _
  | and | ora | eor | lda | ane => exact (read.setA _).setNZ _
  | ldx => exact (read.setX _).setNZ _
  | ldy => exact (read.setY _).setNZ _
  | lax | lxa => exact ((read.setA _).setX _).setNZ _
  | las => exact (((read.setA _).setX _).setSp _).setNZ _
  | cmp | cpx | cpy => exact read.setP [.carry, .zeroNegative] _ (by simp [flagAspects, Aspect.Kept, compareCore])
  | bit => exact read.setP [.zeroNegative, .overflow] _ (by simp [flagAspects, Aspect.Kept, bitTest])
  | sta | stx | sty | sax => exact (start.store r.desc _).mono (by simp)
  | inc | dec => exact ((read.store r.desc _).setNZ _).mono (by simp)
  | inx | dex | tax | tsx => exact (start.setX _).setNZ _
  | iny | dey | tay => exact (start.setY _).setNZ _
  | txa | tya => exact (start.setA _).setNZ _
  | txs => exact start.setSp _
  | pha | php => exact start.push _
  | pla => exact (start.pull.setA _).setNZ _
  | plp => exact start.pull.setP flagAspects _ fun f hf hn => absurd hf hn
  | asl | lsr | rol | ror => exact (start.shiftOperand r.desc fun _ _ => rfl).setNZ _
  | slo | rla | sre => exact ((start.shiftOperand r.desc fun _ _ => rfl).setA _).setNZ _
  | rra => exact (start.shiftOperand r.desc fun _ _ => rfl).addToA _
  | dcp =>
    exact ((read.store r.desc _).setP [.carry, .zeroNegative] _
      (by simp [flagAspects, Aspect.Kept, compareCore])).mono (by simp)
  | isc => exact ((read.store r.desc _).addToA _).mono (by simp)
  | anc => exact ((read.setA _).setNZ _).setP [.carry] _ (by simp [flagAspects, Aspect.Kept])
  | alr => exact ((read.setP [.carry] _ (by simp [flagAspects, Aspect.Kept, shiftRight])).setA _).setNZ _
  | arr => exact ((read.setA _).setNZ _).setP [.carry, .overflow] _ (by simp [flagAspects, Aspect.Kept])
  | sbx => exact ((read.setP [.carry] _ (by simp [flagAspects, Aspect.Kept])).setX _).setNZ _
  | sha | shx | shy => exact (start.memWrite _ _).underUnstablePolicy
  | tas => exact ((start.setSp _).memWrite _ _).underUnstablePolicy
  | jam => exact start.jam
  | nop => exact start
  | clc | sec => exact start.setP [.carry] _ (by simp [flagAspects, Aspect.Kept])
  | cli | sei => exact start.setP [.interruptDisable] _ (by simp [flagAspects, Aspect.Kept])
  | cld | sed => exact start.setP [.decimal] _ (by simp [flagAspects, Aspect.Kept])
  | clv => exact start.setP [.overflow] _ (by simp [flagAspects, Aspect.Kept])
  | jmp => exact start.setPc _
  | jsr => exact ((start.push _).push _).setPc _
  | rts => exact start.pull.pull.setPc _
  | rti => exact start.returnFromInterrupt
  | brk => exact (start.enterInterrupt _ _ _).setStop
  | bpl | bmi | bvc | bvs | bcc | bcs | bne | beq => exact start.branch _ r

/-- The instructions that write an aspect, as R31–R39 and the rules of the three marks list them. The shifts write A
beside those listed, in their accumulator form. -/
def Aspect.writers : Aspect → List String
  | .a => ["ADC", "AND", "EOR", "LDA", "ORA", "SBC", "PLA", "TXA", "TYA", "LAX", "LAS", "SLO", "RLA", "SRE", "RRA",
      "ISC", "ANC", "ALR", "ARR", "ANE", "LXA", "USBC"]
  | .x => ["LDX", "DEX", "INX", "TAX", "TSX", "LAX", "LAS", "LXA", "SBX"]
  | .y => ["LDY", "DEY", "INY", "TAY"]
  | .sp => ["PHA", "PHP", "PLA", "PLP", "JSR", "RTS", "RTI", "BRK", "TXS", "TAS", "LAS"]
  | .pc => ["JMP", "JSR", "RTS", "RTI", "BRK", "BPL", "BMI", "BVC", "BVS", "BCC", "BCS", "BNE", "BEQ"]
  | .carry => ["ADC", "SBC", "CMP", "CPX", "CPY", "ASL", "LSR", "ROL", "ROR", "CLC", "SEC", "PLP", "RTI", "SLO", "RLA",
      "SRE", "RRA", "DCP", "ISC", "ANC", "ALR", "ARR", "SBX", "USBC"]
  | .zeroNegative => ["LDA", "LDX", "LDY", "TAX", "TAY", "TXA", "TYA", "TSX", "PLA", "PLP", "ADC", "SBC", "AND", "ORA",
      "EOR", "CMP", "CPX", "CPY", "BIT", "INC", "DEC", "INX", "INY", "DEX", "DEY", "ASL", "LSR", "ROL", "ROR", "RTI",
      "SLO", "RLA", "SRE", "RRA", "DCP", "ISC", "LAX", "LAS", "ANC", "ALR", "ARR", "SBX", "USBC", "ANE", "LXA"]
  | .interruptDisable => ["SEI", "CLI", "PLP", "RTI", "BRK"]
  | .decimal => ["SED", "CLD", "PLP", "RTI"]
  | .overflow => ["ADC", "SBC", "BIT", "CLV", "PLP", "RTI", "RRA", "ISC", "ARR", "USBC"]
  | .cycles => ["BPL", "BMI", "BVC", "BVS", "BCC", "BCS", "BNE", "BEQ", "JAM"]
  | .stop => ["BRK"]
  | .jammed => ["JAM"]
  | .refused => ["SHA", "SHX", "SHY", "TAS"]
  | .memory => ["STA", "STX", "STY", "SAX", "INC", "DEC", "ASL", "LSR", "ROL", "ROR", "SLO", "RLA", "SRE", "RRA", "DCP",
      "ISC", "SHA", "SHX", "SHY", "TAS", "PHA", "PHP", "JSR", "BRK"]
  | .device => ["STA", "STX", "STY", "SAX", "INC", "DEC", "ASL", "LSR", "ROL", "ROR", "SLO", "RLA", "SRE", "RRA", "DCP",
      "ISC", "SHA", "SHX", "SHY", "TAS"]
  | .nmiPending => []
  | .outside => []
  | .wellFormed => []

/-- Every aspect of a mnemonic's footprint lists it as a writer, or is A written through the accumulator reference. -/
theorem Meaning.mem_writers {mn : String} {h : Handler} {fp : Bool → List Aspect} (hm : Meaning mn h fp) :
    ∀ acc, ∀ q ∈ fp acc, mn ∈ q.writers ∨ (q = .a ∧ acc = true) := by
  cases hm <;> decide

/-- An instruction runs its mnemonic's handler in the frame of R150, with its row's penalty column and base count (a JAM
row's count applies under NOP only, R175). -/
theorem exec_eq_runInstr (i : Instr) :
    ∃ h fp base, Meaning i.row.mnemonic h fp ∧ (base = i.row.cycles ∨ i.row.mnemonic = "JAM") ∧
      ∀ s, exec i s = runInstr i.operand base i.row.pagePenalty h s := by
  rw [Instr.row]
  cases i <;> simp only [Instr.opcode]
  case jam02 | jam12 | jam22 | jam32 | jam42 | jam52 | jam62 | jam72 | jam92 | jamB2 | jamD2 | jamF2 =>
    exact ⟨_, _, _, .jam, .inr rfl, fun _ => rfl⟩
  all_goals exact ⟨_, _, _, by constructor, .inl rfl, fun _ => rfl⟩

/-- The accumulator reference comes from accumulator mode only (R162). -/
theorem mode_of_resolve_acc {o : Operand} {s : State} (h : (resolve o s).1.desc = .acc) : o.mode = .accumulator := by
  cases o <;> simp_all [resolve, Operand.mode]

/-- An instruction keeps every aspect but those that list it as a writer, A in accumulator mode and the cycles. -/
theorem exec_keeps {i : Instr} {s t : State} (he : exec i s = .next t) (q : Aspect) (hw : i.row.mnemonic ∉ q.writers)
    (ha : q = .a → i.operand.mode ≠ .accumulator := by nofun) (hc : q ≠ .cycles := by decide) : q.Kept s t := by
  obtain ⟨h, fp, base, hm, -, hr⟩ := exec_eq_runInstr i
  rw [hr, runInstr_next] at he
  injection he with he
  subst he
  have changes := (hm.changes (resolve i.operand s).1 (resolve i.operand s).2)
  refine (((ChangesOnly.refl s).resolve i.operand).trans changes).addCycles _ q fun hq => ?_
  simp only [List.append_nil, List.mem_cons, hc, false_or] at hq
  rcases hm.mem_writers _ q hq with hl | ⟨hqa, hacc⟩
  · exact hw hl
  · exact ha hqa (mode_of_resolve_acc (by simpa using hacc))

/-- BRK sets `stop` (R350). -/
theorem Meaning.stop_of_brk {mn : String} {h : Handler} {fp : Bool → List Aspect} (hm : Meaning mn h fp)
    (e : mn = "BRK") (r : Resolved) (s : State) : (h r s).stop = true := by
  cases hm with
  | brk => rfl
  | _ => exact absurd e (by decide)

/-- JAM sets `jammed` under HALT and leaves it under NOP (R440). -/
theorem Meaning.jammed_of_jam {mn : String} {h : Handler} {fp : Bool → List Aspect} (hm : Meaning mn h fp)
    (e : mn = "JAM") (r : Resolved) (s : State) :
    (h r s).jammed = (s.jammed || s.params.jamPolicy == .halt) := by
  cases hm with
  | jam => rcases s.jam_cases with ⟨hp, hj⟩ | ⟨hp, hj⟩ <;> simp [Machine.jam, hj, hp]
  | _ => exact absurd e (by decide)

/-- The unstable stores set `refused` under REFUSE and leave it under COMMON (R430). -/
theorem State.underUnstablePolicy_refused (s common : State) (h : common.refused = s.refused) :
    (s.underUnstablePolicy common).refused = (s.refused || s.params.unstableStore == .refuse) := by
  rcases s.underUnstablePolicy_cases common with ⟨hp, e⟩ | ⟨hp, e⟩ <;> simp [e, hp, h]

theorem Meaning.refused_of_unstable {mn : String} {h : Handler} {fp : Bool → List Aspect} (hm : Meaning mn h fp)
    (e : mn ∈ ["SHA", "SHX", "SHY", "TAS"]) (r : Resolved) (s : State) :
    (h r s).refused = (s.refused || s.params.unstableStore == .refuse) := by
  cases hm with
  | sha | shx | shy | tas => exact s.underUnstablePolicy_refused _ (by simp)
  | _ => exact absurd e (by decide)

end Sys2Proof.Machine
end

section
/-! SUPPORT. What the decoder answers for fetched bytes (R140–R151), and what a step can do, said once. -/

namespace Sys2Proof.Machine

/-- An instruction built for an opcode byte has that opcode (R175). -/
@[simp] theorem build_opcode (op b c : Byte) : (build op b c).opcode = op := by
  obtain ⟨n, hn⟩ := op
  simp only [build, builders, List.append_assoc]
  interval_cases n <;> rfl

/-- The decoder consumes an opcode byte with its mode's operand bytes, and builds an instruction of that opcode. -/
theorem decode_eq_build {op : Byte} {bytes rest : List Byte} {i : Instr}
    (hl : bytes.length = (opRow op).mode.operandBytes) (h : decode (op :: bytes) = .ok (i, rest)) :
    rest = [] ∧ ∃ b c, i = build op b c := by
  simp only [decode] at h
  split at h
  next h0 =>
    cases h
    exact ⟨List.length_eq_zero_iff.mp (hl.trans h0), 0, 0, rfl⟩
  next b bs h1 =>
    cases h
    exact ⟨by simpa [h1] using hl, b, 0, rfl⟩
  next b c bs h2 =>
    cases h
    exact ⟨by simpa [h2] using hl, b, c, rfl⟩
  next => cases h

theorem decode_fetchInstr {s : State} {i : Instr} {rest : List Byte} (h : decode s.fetchInstr.1 = .ok (i, rest)) :
    rest = [] ∧ ∃ b c, i = build s.fetch8.1 b c :=
  decode_eq_build (State.fetchBytes_length _ _) h

/-- BRK is the one row of its mnemonic, opcode $00 (R350). -/
theorem opcode_of_mnemonic_brk (op : Byte) (h : (opRow op).mnemonic = "BRK") : op = 0 := by
  revert op
  decide

/-- The step from `s` to `t` fetches and runs the instruction `i`: the CPU's loop is due, the core neither jammed nor
refused, and no NMI, IRQ or DMA comes first (R502, R510, R520). -/
structure RunsInstr (s : State) (i : Instr) (t : State) : Prop where
  running : s.stop = false
  due : s.cycles < s.master
  notJammed : s.jammed = false
  notRefused : s.refused = false
  noNmi : s.nmiPending = false
  noIrq : s.irqLine = false ∨ s.p.i = true
  noDma : s.dmaPending = false
  fetched : decode s.fetchInstr.1 = .ok (i, [])
  run : exec i s.fetchInstr.2 = .next t

/-- What one step does (R502, R510, R520, R530, R560). -/
inductive StepCase (s : State) : State → Prop
  | idle (h : s.jammed = true ∨ s.refused = true) : StepCase s { s with cycles := s.master }
  | nmi (h : s.nmiPending = true) : StepCase s s.nmiEntry
  | irq (h : s.irqLine = true ∧ s.p.i = false) : StepCase s s.irqEntry
  | dma (h : s.dmaPending = true) : StepCase s s.dmaTransfer
  | instr (t : State) (i : Instr) (h : RunsInstr s i t) : StepCase s t
  | dot (h : s.stop = false) : StepCase s s.ppuStep
  | host : StepCase s s.hostStep

theorem executeInstruction_next {s t : State} (h : executeInstruction s = .next t) :
    ∃ i, decode s.fetchInstr.1 = .ok (i, []) ∧ exec i s.fetchInstr.2 = .next t := by
  simp only [executeInstruction] at h
  split at h
  next i rest hd =>
    obtain ⟨rfl, -⟩ := decode_fetchInstr hd
    exact ⟨i, hd, h⟩
  next => cases h

theorem step_cases {s t : State} (h : step s = .next t) : StepCase s t := by
  simp only [step, advance, cpuDispatch] at h
  split at h
  next hc =>
    obtain ⟨due, running⟩ : s.cycles < s.master ∧ s.stop = false := by simpa [State.cpuDue] using hc
    split at h
    next hj => cases h; exact .idle (by simpa using hj)
    next hj =>
    obtain ⟨notJammed, notRefused⟩ : s.jammed = false ∧ s.refused = false := by simpa using hj
    split at h
    next hn => cases h; exact .nmi hn
    next hn =>
    split at h
    next hq => cases h; exact .irq (by simpa using hq)
    next hq =>
    split at h
    next hd => exact Host.Outcome.next.inj h ▸ .dma hd
    next hd =>
    obtain ⟨i, fetched, run⟩ := executeInstruction_next h
    have noIrq : s.irqLine = false ∨ s.p.i = true := by
      cases hl : s.irqLine
      · exact .inl rfl
      · exact .inr (by simpa [hl] using hq)
    exact .instr t i ⟨running, due, notJammed, notRefused, by simpa using hn, noIrq, by simpa using hd, fetched, run⟩
  next =>
    split at h
    next hp => cases h; exact .dot (by simpa [State.ppuDue] using (Bool.and_eq_true_iff.mp hp).2)
    next => cases h; exact .host

/-- The next dot lies in the frame (R56, R566). -/
theorem Ppu.advancePosition_positionWf (u : Ppu) (h : u.positionWf = true) : u.advancePosition.positionWf = true := by
  simp only [Ppu.positionWf, Bool.and_eq_true, decide_eq_true_eq] at h ⊢
  unfold Ppu.advancePosition
  split_ifs <;> simp only <;> omega

/-- A dot keeps the state well formed (R568). -/
theorem State.ppuStep_wf (s : State) (h : s.wf = true) : s.ppuStep.wf = true := by
  obtain ⟨hm, hv, ho, hp, hr⟩ := s.wf_iff.mp h
  have hp' := s.ppu.advancePosition_positionWf hp
  refine (State.wf_iff _).mpr ⟨hm, ?_, ?_, ?_, hr⟩
  · simpa [State.ppuStep] using hv
  · simpa [State.ppuStep] using ho
  · simpa [State.ppuStep, Ppu.positionWf] using hp'

theorem State.hostStep_eq (s : State) :
    s.hostStep = { s with master := s.hostStep.master, hostSteps := s.hostStep.hostSteps } := by
  unfold State.hostStep
  split <;> rfl

namespace ChangesOnly

theorem idle (s : State) : ChangesOnly [.cycles] s { s with cycles := s.master } := fun q hq => by
  cases q <;> simp_all [Aspect.Kept, State.wf]

theorem ppuStep (s : State) : ChangesOnly [.nmiPending, .outside] s s.ppuStep := fun q hq => by
  cases q
  case wellFormed => exact s.ppuStep_wf
  all_goals simp_all [Aspect.Kept, State.ppuStep]

theorem hostStep (s : State) : ChangesOnly [.outside] s s.hostStep := fun q hq => by
  rw [State.hostStep_eq]
  cases q <;> simp_all [Aspect.Kept, State.wf]

end ChangesOnly

/-- What a step that runs no instruction may change: what an interrupt entry, a DMA transfer, a dot or the host's next
`Step(n)` does. -/
def eventAspects : List Aspect := .cycles :: .nmiPending :: .device :: .outside :: entryAspects

/-- A step either runs an instruction or changes at most what an event does. -/
theorem step_runs_or_changes {s t : State} (h : step s = .next t) :
    (∃ i, RunsInstr s i t) ∨ ChangesOnly eventAspects s t := by
  cases step_cases h with
  | instr _ i h => exact .inl ⟨i, h⟩
  | idle => exact .inr ((ChangesOnly.idle s).mono (by decide))
  | nmi => exact .inr ((ChangesOnly.nmiEntry s).mono (by decide))
  | irq => exact .inr ((ChangesOnly.irqEntry s).mono (by decide))
  | dma => exact .inr ((ChangesOnly.dmaTransfer s).mono (by decide))
  | dot => exact .inr ((ChangesOnly.ppuStep s).mono (by decide))
  | host => exact .inr ((ChangesOnly.hostStep s).mono (by decide))

end Sys2Proof.Machine
end

section
/-! SUPPORT. The statements about the state (spec/10_state.md), settled from the footprints and the cases of a step. -/

namespace Sys2Proof.Machine

/-- Every step keeps a well-formed state well formed: an event keeps it, and so do the fetch and every instruction. -/
theorem step_wf {s t : State} (hs : s.wf = true) (h : step s = .next t) : t.wf = true := by
  rcases step_runs_or_changes h with ⟨i, hr⟩ | event
  · have fetched : s.fetchInstr.2.wf = true := ChangesOnly.fetchInstr s .wellFormed (by decide) hs
    have kept : s.fetchInstr.2.wf = true → t.wf = true := exec_keeps hr.run .wellFormed List.not_mem_nil
    exact kept fetched
  · exact event .wellFormed (by decide) hs

/-- Settles O10, by the case split of a step: well-formedness stands in no footprint. -/
theorem stepKeepsWellFormedState : Obligations.StepKeepsWellFormedState := fun _ _ => step_wf

/-- Settles O11: the empty memories are in canonical form. -/
theorem resetStateWellFormed : Obligations.ResetStateWellFormed := by
  unfold Obligations.ResetStateWellFormed
  rfl

/-- Settles O55: State.reset is power-on with the model's own choices. -/
theorem powerOnValues : Obligations.PowerOnValues := by
  intro q
  exact ⟨rfl, rfl, rfl, rfl, rfl, rfl, rfl, rfl, rfl, rfl, rfl, rfl, rfl, rfl, rfl, _, rfl⟩

/-- Settles O58: no instruction outside the lists of R31–R34 has the register in its footprint. -/
theorem registersChangeOnlyByTheirWriters : Obligations.RegistersChangeOnlyByTheirWriters := by
  intro i s t he mn
  obtain ⟨hirq, hmaster, hmapper, hparams, hhost, hpos, hframe, hdone, hhit, hover, -⟩ :=
    exec_keeps he .outside List.not_mem_nil
  exact ⟨fun hw ha => exec_keeps he .a hw fun _ => ha, exec_keeps he .x, exec_keeps he .y, exec_keeps he .sp,
    exec_keeps he .nmiPending List.not_mem_nil, hirq, hmaster, hmapper, hparams, hhost, hpos, hframe, hdone, hhit,
    hover, exec_keeps he .device⟩

/-- Settles O59: no instruction outside a flag's list of R39 has it in its footprint. -/
theorem flagsChangeOnlyByTheirWriters : Obligations.FlagsChangeOnlyByTheirWriters := by
  intro i s t he mn
  exact ⟨exec_keeps he .carry, exec_keeps he .zeroNegative, exec_keeps he .interruptDisable, exec_keeps he .decimal,
    exec_keeps he .overflow⟩

/-- What an instruction leaves in the three marks (R350, R440, R430). -/
theorem exec_marks {i : Instr} {s t : State} (he : exec i s = .next t) :
    t.stop = (s.stop || i.row.mnemonic == "BRK") ∧
      t.jammed = (s.jammed || (i.row.mnemonic == "JAM" && s.params.jamPolicy == .halt)) ∧
      t.refused = (s.refused || (decide (i.row.mnemonic ∈ ["SHA", "SHX", "SHY", "TAS"]) &&
        s.params.unstableStore == .refuse)) := by
  obtain ⟨h, fp, base, hm, -, hr⟩ := exec_eq_runInstr i
  have ht := he
  rw [hr, runInstr_next] at ht
  injection ht with ht
  refine ⟨?_, ?_, ?_⟩
  · by_cases hw : i.row.mnemonic = "BRK"
    · simp [← ht, hm.stop_of_brk hw, hw]
    · have kept : t.stop = s.stop := exec_keeps he .stop (by simpa [Aspect.writers] using hw)
      simp [kept, hw]
  · by_cases hw : i.row.mnemonic = "JAM"
    · simp [← ht, hm.jammed_of_jam hw, hw]
    · have kept : t.jammed = s.jammed := exec_keeps he .jammed (by simpa [Aspect.writers] using hw)
      simp [kept, hw]
  · by_cases hw : i.row.mnemonic ∈ ["SHA", "SHX", "SHY", "TAS"]
    · rw [decide_eq_true hw, ← ht]
      simp [hm.refused_of_unstable hw]
    · have kept : t.refused = s.refused := exec_keeps he .refused hw
      rw [decide_eq_false hw]
      simp [kept]

/-- Fetched bytes that decode to an instruction of mnemonic BRK decode to BRK. -/
theorem eq_brk_of_decode {s : State} {i : Instr} {rest : List Byte} (hd : decode s.fetchInstr.1 = .ok (i, rest))
    (hb : i.row.mnemonic = "BRK") : i = .brk := by
  obtain ⟨-, b, c, rfl⟩ := decode_fetchInstr hd
  rw [Instr.row, build_opcode] at hb
  rw [opcode_of_mnemonic_brk _ hb]
  rfl

/-- No step clears one of the marks. -/
theorem step_marks {s t : State} (h : step s = .next t) :
    (s.stop = true → t.stop = true) ∧ (s.jammed = true → t.jammed = true) ∧ (s.refused = true → t.refused = true) := by
  rcases step_runs_or_changes h with ⟨i, hr⟩ | event
  · obtain ⟨hs, hj, hf⟩ := exec_marks hr.run
    simp [hr.running, hr.notJammed, hr.notRefused]
  · have hs : t.stop = s.stop := event .stop (by decide)
    have hj : t.jammed = s.jammed := event .jammed (by decide)
    have hf : t.refused = s.refused := event .refused (by decide)
    rw [hs, hj, hf]
    exact ⟨id, id, id⟩

/-- A step that sets `stop` runs a fetched BRK (R531). -/
theorem step_sets_stop {s t : State} (h : step s = .next t) (hs : s.stop = false) (ht : t.stop = true) :
    RunsInstr s .brk t := by
  rcases step_runs_or_changes h with ⟨i, hr⟩ | event
  · have fetched : s.fetchInstr.2.stop = s.stop := ChangesOnly.fetchInstr s .stop (by decide)
    obtain ⟨hstop, -⟩ := exec_marks hr.run
    have hb : i.row.mnemonic = "BRK" := by simpa [ht, fetched, hs] using hstop
    exact eq_brk_of_decode hr.fetched hb ▸ hr
  · have kept : t.stop = s.stop := event .stop (by decide)
    simp [kept, hs] at ht

/-- Settles O14: by the marks of each handler, and the case split of a step. -/
theorem onlyBrkStopsTheMachine : Obligations.OnlyBrkStopsTheMachine := by
  refine ⟨fun i s t => exec_marks, fun s t h => ?_⟩
  obtain ⟨hs, hj, hf⟩ := step_marks h
  refine ⟨hs, hj, hf, fun h0 h1 => ?_⟩
  have hr := step_sets_stop h h0 h1
  exact ⟨hr.notJammed, hr.notRefused, hr.noNmi, hr.noDma, hr.noIrq, hr.due, hr.fetched, hr.run⟩

/-- An instruction's mode is its row's (R142). -/
theorem operand_mode (i : Instr) : i.operand.mode = i.row.mode := by
  rw [Instr.row]
  cases i <;> simp only [Instr.opcode] <;> rfl

/-- Every row of a branch has the relative mode (R335). -/
theorem mode_of_branch (op : Byte)
    (h : (opRow op).mnemonic ∈ ["BPL", "BMI", "BVC", "BVS", "BCC", "BCS", "BNE", "BEQ"]) :
    (opRow op).mode = .relative := by
  revert op
  decide

/-- Settles O17: the decoder leaves no fetched byte over, the fetch moves PC by the row's length, and PC stands in the
footprint of the control transfers only. -/
theorem pcPassesTheInstruction : Obligations.PcPassesTheInstruction := by
  refine ⟨fun s i rest hd => ?_, fun i s t hw hmode he => ?_⟩
  · obtain ⟨hrest, b, c, rfl⟩ := decode_fetchInstr hd
    refine ⟨hrest, ?_⟩
    rw [State.fetchInstr_eq, Instr.row, build_opcode]
    simp
  · refine exec_keeps he .pc fun hp => ?_
    have hp : i.row.mnemonic ∈ ["JMP", "JSR", "RTS", "RTI", "BRK"] ++ _ := hp
    rcases List.mem_append.mp hp with hj | hb
    · exact hw hj
    · exact hmode ((operand_mode i).trans (mode_of_branch i.opcode hb))

/-- The pushed byte bit by bit (R37). -/
theorem Flags.pushedByte_bits (p : Flags) (b4 : Bool) :
    (List.range 8).map (p.pushedByte b4).getLsbD = [p.c, p.z, p.i, p.d, b4, true, p.v, p.n] := by
  obtain ⟨c, z, i, d, v, n⟩ := p
  revert b4 c z i d v n
  decide

theorem word16_stackPage_eq_stackIndex (b : Byte) : (word16 1#8 b).toNat = stackIndex b := word16_stackPage_toNat b

/-- Taking an interrupt leaves the status byte in the third cell of the stack, with the bit 4 it was given (R500). -/
theorem State.enterInterrupt_statusByte (s : State) (ret : Addr) (b4 : Bool) (v : Addr)
    (hv : v = nmiVector ∨ v = irqVector) :
    (s.enterInterrupt ret b4 v).mem.read (stackIndex (s.sp - 2)) = s.p.pushedByte b4 := by
  rw [State.enterInterrupt_eq s ret b4 v hv, ← word16_stackPage_eq_stackIndex, Mem.read_write_same]

theorem exec_php (s : State) : exec .php s = .next ((s.push (s.p.pushedByte true)).addCycles 3) := rfl

theorem exec_plp (s : State) : exec .plp s = .next ((s.pull.2.setP (Flags.ofPulledByte s.pull.1)).addCycles 4) := rfl

theorem exec_rti (s : State) : exec .rti s = .next (s.returnFromInterrupt.addCycles 6) := rfl

theorem exec_brk (s : State) :
    exec .brk s = .next ({ s.enterInterrupt (s.pc + 1) true irqVector with stop := true }.addCycles 7) := rfl

/-- Settles O24: the bits of the pushed byte, the byte PHP leaves on the stack for PLP, and the byte each of the other
pulls and pushes of P reads or leaves. -/
theorem statusByteRoundTrip : Obligations.StatusByteRoundTrip := by
  refine ⟨Flags.pushedByte_bits, fun _ => rfl, fun s => ?_⟩
  refine ⟨_, _, exec_php s, exec_plp _, ?_, ?_, ?_, ?_, ⟨_, exec_rti s, ?_⟩, ⟨_, exec_brk s, ?_⟩, ?_, ?_⟩
  · simp [State.push_eq, State.pull_eq]
  · simp [State.push_eq, State.pull_eq]
  · simp [State.push_eq, word16_stackPage_eq_stackIndex]
  · simp [State.push_eq, State.pull_eq, word16_stackPage_eq_stackIndex]
  · simp [State.returnFromInterrupt_eq, word16_stackPage_eq_stackIndex]
  · rw [State.addCycles_mem]
    exact s.enterInterrupt_statusByte (s.pc + 1) true irqVector (.inr rfl)
  · rw [State.nmiEntry, State.addCycles_mem]
    exact State.enterInterrupt_statusByte { s with nmiPending := false } s.pc false nmiVector (.inl rfl)
  · rw [State.irqEntry, State.addCycles_mem]
    exact s.enterInterrupt_statusByte s.pc false irqVector (.inr rfl)

end Sys2Proof.Machine
end

section
/-! SUPPORT. The bus on numbers (spec/20_memory.md R90, R91): where an address is stored, its read and write class there,
and what a bus access of each class does. -/

namespace Sys2Proof.Machine

/-- Masking with the low k bits is the remainder mod 2^k. -/
theorem and_low_mask_toNat (a : Addr) (k : Nat) (hk : k ≤ 16) :
    (a &&& BitVec.ofNat 16 (2 ^ k - 1)).toNat = a.toNat % 2 ^ k := by
  have hlt : 2 ^ k - 1 < 2 ^ 16 :=
    (Nat.sub_lt (Nat.two_pow_pos k) Nat.one_pos).trans_le (Nat.pow_le_pow_right (by decide) hk)
  rw [BitVec.toNat_and, BitVec.toNat_ofNat, Nat.mod_eq_of_lt hlt, Nat.and_two_pow_sub_one_eq_mod]

/-- Redirection on numbers (R90). -/
theorem redirect_toNat (a : Addr) : (redirect a).toNat = storageIndex a.toNat := by
  have low : (a &&& 0x0007).toNat = a.toNat % 8 := and_low_mask_toNat a 3 (by decide)
  have ram : (a &&& 0x07FF).toNat = a.toNat % 0x0800 := and_low_mask_toNat a 11 (by decide)
  have reg : (0x2000 ||| (a &&& 0x0007)).toNat = 0x2000 + a.toNat % 8 := by
    rw [BitVec.toNat_or, low]
    exact (Nat.two_pow_add_eq_or_of_lt (i := 13) (show a.toNat % 8 < 2 ^ 13 by omega) 1).symm
  simp only [redirect, storageIndex, BitVec.lt_def, apply_ite BitVec.toNat, ram, reg]
  rfl

/-- Below $2000 the storage is the 2 KiB of RAM, below $4000 the eight PPU registers (R90). -/
theorem storageIndex_bounds (a : Addr) :
    (storageIndex a.toNat < 0x2000 → storageIndex a.toNat < 0x0800) ∧
      (storageIndex a.toNat < 0x4000 → storageIndex a.toNat < 0x2008) := by
  unfold storageIndex
  split_ifs <;> omega

/-- The read class at a storage index (R91). -/
def readClassAt (r : Nat) : ReadClass :=
  if r < 0x2000 then .ram
  else if r < 0x4000 then .ppuRegister (BitVec.ofNat 3 (r - 0x2000))
  else if r = 0x4016 then .controller 0
  else if r = 0x4017 then .controller 1
  else .flat

/-- The write class at a storage index (R91). -/
def writeClassAt (g : AddrRange) (r : Nat) : WriteClass :=
  if r < 0x2000 then .ram
  else if r < 0x4000 then .ppuRegister (BitVec.ofNat 3 (r - 0x2000))
  else if r = 0x4014 then .dmaRegister
  else if r = 0x4016 then .controllerStrobe
  else if r = 0x4017 then .flat
  else if g.first.toNat ≤ r ∧ r ≤ g.last.toNat then .mapper
  else .flat

/-- The number of a PPU register (R90). -/
theorem registerNumber_eq (r : Addr) (h : 0x2000 ≤ r.toNat) :
    (r - 0x2000).setWidth 3 = BitVec.ofNat 3 (r.toNat - 0x2000) := by
  apply BitVec.eq_of_toNat_eq
  rw [BitVec.toNat_setWidth, BitVec.toNat_sub_of_le h, BitVec.toNat_ofNat]
  rfl

/-- The conditions of R91's table on a redirected address, on its storage index. -/
theorem redirect_conditions (a : Addr) :
    (redirect a ≤ 0x07FF ↔ storageIndex a.toNat < 0x2000) ∧
      (0x2000 ≤ redirect a ∧ redirect a ≤ 0x2007 ↔ 0x2000 ≤ storageIndex a.toNat ∧ storageIndex a.toNat < 0x4000) ∧
      (redirect a = 0x4014 ↔ storageIndex a.toNat = 0x4014) ∧ (redirect a = 0x4016 ↔ storageIndex a.toNat = 0x4016) ∧
      (redirect a = 0x4017 ↔ storageIndex a.toNat = 0x4017) := by
  obtain ⟨ram, reg⟩ := storageIndex_bounds a
  rw [← redirect_toNat] at ram reg ⊢
  generalize redirect a = r at ram reg ⊢
  refine ⟨?_, ?_, ?_, ?_, ?_⟩ <;> bv_omega

theorem readClass_redirect (a : Addr) : readClass (redirect a) = readClassAt (storageIndex a.toNat) := by
  obtain ⟨ram, reg, -, port0, port1⟩ := redirect_conditions a
  simp only [readClass, readClassAt, ram, reg, port0, port1]
  by_cases hr : storageIndex a.toNat < 0x2000
  · simp only [hr, if_true]
  · have number := registerNumber_eq (redirect a) (by rw [redirect_toNat]; omega)
    simp only [hr, Nat.le_of_not_lt hr, true_and, number, redirect_toNat]

theorem contains_redirect (g : AddrRange) (a : Addr) :
    AddrRange.contains g (redirect a) = true ↔
      g.first.toNat ≤ storageIndex a.toNat ∧ storageIndex a.toNat ≤ g.last.toNat := by
  simp only [AddrRange.contains, Bool.and_eq_true, decide_eq_true_eq, BitVec.le_def, redirect_toNat]

theorem writeClass_redirect (g : AddrRange) (a : Addr) :
    writeClass g (redirect a) = writeClassAt g (storageIndex a.toNat) := by
  obtain ⟨ram, reg, dma, strobe, port1⟩ := redirect_conditions a
  simp only [writeClass, writeClassAt, ram, reg, dma, strobe, port1, contains_redirect]
  by_cases hr : storageIndex a.toNat < 0x2000
  · simp only [hr, if_true]
  · have number := registerNumber_eq (redirect a) (by rw [redirect_toNat]; omega)
    simp only [hr, Nat.le_of_not_lt hr, true_and, number, redirect_toNat]

/-! What a bus access does, by its storage index (R95, R96). -/

/-- A bus write reaches the cell: RAM, or the flat region but for the DMA register, the strobe and the mapper range
(R91). -/
def WritableCell (g : AddrRange) (c : Nat) : Prop :=
  c < 0x0800 ∨ (0x4000 ≤ c ∧ c ≠ 0x4014 ∧ c ≠ 0x4016 ∧ (c = 0x4017 ∨ ¬ (g.first.toNat ≤ c ∧ c ≤ g.last.toNat)))

section

variable (s : State) {a : Addr} (v : Byte)

theorem State.memRead_cell
    (h : storageIndex a.toNat < 0x2000 ∨
      (0x4000 ≤ storageIndex a.toNat ∧ storageIndex a.toNat ≠ 0x4016 ∧ storageIndex a.toNat ≠ 0x4017)) :
    s.memRead a = (s.mem.read (storageIndex a.toNat), s) := by
  rw [State.memRead, readClass_redirect, redirect_toNat, readClassAt]
  rcases h with ram | ⟨flat, port0, port1⟩
  · rw [if_pos ram]
  · rw [if_neg (by omega), if_neg (by omega), if_neg port0, if_neg port1]

theorem State.memRead_register (h : 0x2000 ≤ storageIndex a.toNat) (h' : storageIndex a.toNat < 0x4000) :
    s.memRead a = ((s.ppu.regRead (BitVec.ofNat 3 (storageIndex a.toNat - 0x2000))).1,
      { s with ppu := (s.ppu.regRead (BitVec.ofNat 3 (storageIndex a.toNat - 0x2000))).2 }) := by
  rw [State.memRead, readClass_redirect, readClassAt, if_neg (by omega), if_pos h']

theorem State.memRead_port0 (h : storageIndex a.toNat = 0x4016) :
    s.memRead a =
      (Config.readController 0 s.controllerLog, { s with controllerLog := .read 0 :: s.controllerLog }) := by
  rw [State.memRead, readClass_redirect, h]
  rfl

theorem State.memRead_port1 (h : storageIndex a.toNat = 0x4017) :
    s.memRead a =
      (Config.readController 1 s.controllerLog, { s with controllerLog := .read 1 :: s.controllerLog }) := by
  rw [State.memRead, readClass_redirect, h]
  rfl

theorem State.memWrite_cell (h : WritableCell s.mapperRange (storageIndex a.toNat)) :
    s.memWrite a v = { s with mem := s.mem.write (storageIndex a.toNat) v } := by
  rw [State.memWrite, writeClass_redirect, redirect_toNat, writeClassAt]
  rcases h with ram | ⟨flat, dma, strobe, port1 | out⟩
  · rw [if_pos (by omega)]
  · rw [if_neg (by omega), if_neg (by omega), if_neg dma, if_neg strobe, if_pos port1]
  · rw [if_neg (by omega), if_neg (by omega), if_neg dma, if_neg strobe, if_neg out, ite_self]

theorem State.memWrite_register (h : 0x2000 ≤ storageIndex a.toNat) (h' : storageIndex a.toNat < 0x4000) :
    s.memWrite a v = { s with ppu := s.ppu.regWrite (BitVec.ofNat 3 (storageIndex a.toNat - 0x2000)) v } := by
  rw [State.memWrite, writeClass_redirect, writeClassAt, if_neg (by omega), if_pos h']

theorem State.memWrite_dma (h : storageIndex a.toNat = 0x4014) :
    s.memWrite a v = { s with dmaSrc := word16 v 0, dmaPending := true } := by
  rw [State.memWrite, writeClass_redirect, h]
  rfl

theorem State.memWrite_strobe (h : storageIndex a.toNat = 0x4016) :
    s.memWrite a v = { s with controllerLog := .strobe v :: s.controllerLog } := by
  rw [State.memWrite, writeClass_redirect, h]
  rfl

/-- From $4000 up a write that reaches neither a register nor a cell is dropped: it falls in the mapper range (R93,
R104). -/
theorem State.memWrite_mapper
    (h : 0x4000 ≤ storageIndex a.toNat ∧ storageIndex a.toNat ≠ 0x4014 ∧ storageIndex a.toNat ≠ 0x4016)
    (hw : ¬ WritableCell s.mapperRange (storageIndex a.toNat)) : s.memWrite a v = s := by
  obtain ⟨flat, dma, strobe⟩ := h
  simp only [WritableCell] at hw
  rw [State.memWrite, writeClass_redirect, writeClassAt, if_neg (by omega), if_neg (by omega), if_neg dma,
    if_neg strobe, if_neg (by omega), if_pos (by omega)]

/-- A bus write to no writable cell leaves memory alone (R91). -/
theorem State.memWrite_mem_of_not_writable (hw : ¬ WritableCell s.mapperRange (storageIndex a.toNat)) :
    (s.memWrite a v).mem = s.mem := by
  obtain ⟨ram, -⟩ := storageIndex_bounds a
  have high : 0x2000 ≤ storageIndex a.toNat := Nat.le_of_not_lt fun low => hw (.inl (ram low))
  by_cases reg : storageIndex a.toNat < 0x4000
  · rw [s.memWrite_register v high reg]
  by_cases dma : storageIndex a.toNat = 0x4014
  · rw [s.memWrite_dma v dma]
  by_cases strobe : storageIndex a.toNat = 0x4016
  · rw [s.memWrite_strobe v strobe]
  rw [s.memWrite_mapper v ⟨Nat.le_of_not_lt reg, dma, strobe⟩ hw]

/-- A bus write changes no cell but its own, and that only where it is writable (R96, R102). -/
theorem State.memWrite_mem_read {c : Nat} (h : WritableCell s.mapperRange c → c ≠ storageIndex a.toNat) :
    (s.memWrite a v).mem.read c = s.mem.read c := by
  by_cases hw : WritableCell s.mapperRange (storageIndex a.toNat)
  · rw [s.memWrite_cell v hw]
    exact Mem.read_write_other s.mem v fun e => h (e ▸ hw) e
  · rw [s.memWrite_mem_of_not_writable v hw]

end

/-- Settles O44: a read of a cell, of a PPU register, and of each controller port. -/
theorem busReadByAddress : Obligations.BusReadByAddress := by
  intro s a r
  exact ⟨redirect_toNat a, fun ram => s.memRead_cell (.inl ram), s.memRead_register,
    fun port0 => ⟨_, s.memRead_port0 port0⟩, fun port1 => ⟨_, s.memRead_port1 port1⟩,
    fun flat port0 port1 => s.memRead_cell (.inr ⟨flat, port0, port1⟩)⟩

/-- Settles O45: a write of a cell, of each register, and of the mapper range; a legal mapper range lies above every register. -/
theorem busWriteByAddress : Obligations.BusWriteByAddress := by
  intro s a v hg r inRange
  have above : 0x4020 ≤ s.mapperRange.first.toNat := by
    simp only [AddrRange.wellFormed, Bool.and_eq_true, decide_eq_true_eq] at hg
    exact hg.1
  refine ⟨fun ram => s.memWrite_cell v (.inl ((storageIndex_bounds a).1 ram)), s.memWrite_register v,
    fun dma => ⟨?_, ?_⟩, fun strobe => ⟨_, s.memWrite_strobe v strobe⟩, fun hr => ?_, fun flat dma strobe out => ?_⟩
  · have source : word16 v 0 = BitVec.ofNat 16 (v.toNat * 0x100) := by
      revert v
      decide
    rw [s.memWrite_dma v dma, source]
  · have cell := s.memRead_cell (a := a) (by omega)
    rwa [show storageIndex a.toNat = 0x4014 from dma] at cell
  · have dropped : ¬ WritableCell s.mapperRange r := by
      unfold WritableCell
      omega
    exact s.memWrite_mapper v (by omega) dropped
  · exact s.memWrite_cell v (.inr ⟨flat, dma, strobe, .inr out⟩)

/-- A bus write to RAM or to the flat region stores at most its own cell (R96, R103). -/
theorem State.memWrite_only_cell (s : State) {a : Addr} (v : Byte)
    (h : storageIndex a.toNat < 0x2000 ∨
      (0x4000 ≤ storageIndex a.toNat ∧ storageIndex a.toNat ≠ 0x4014 ∧ storageIndex a.toNat ≠ 0x4016)) :
    s.memWrite a v = { s with mem := (s.memWrite a v).mem } := by
  by_cases hw : WritableCell s.mapperRange (storageIndex a.toNat)
  · rw [s.memWrite_cell v hw]
  · have flat := h.resolve_left fun ram => hw (.inl ((storageIndex_bounds a).1 ram))
    rw [s.memWrite_mapper v flat hw]

/-- Only PPUSTATUS and PPUDATA have a read with an effect (R103, R543). -/
theorem Ppu.regRead_state (u : Ppu) {n : BitVec 3} (status : n ≠ 2) (data : n ≠ 7) : (u.regRead n).2 = u := by
  rw [Ppu.regRead, if_neg status, if_neg data]
  split_ifs <;> rfl

/-- A read of PPUDATA moves the read buffer and increments v (R550, R552). -/
theorem Ppu.dataRead_state (u : Ppu) :
    u.dataRead.2 =
      { u with readBuffer := u.dataRead.2.readBuffer, v := u.v + if u.ctrl.getLsbD 2 then 32 else 1 } := by
  unfold Ppu.dataRead
  split <;> rfl

/-- Settles O46: reads by the two registers and two ports with an effect, and writes to RAM and the flat region. -/
theorem busReadSideEffects : Obligations.BusReadSideEffects := by
  intro s a
  obtain ⟨-, reg⟩ := storageIndex_bounds a
  refine ⟨fun h => ?_, fun status => ?_, fun data => ?_, fun ports => ?_, fun v hv => ⟨?_, fun c hc => ?_⟩⟩
  · simp only [List.mem_cons, List.not_mem_nil, or_false, not_or] at h
    obtain ⟨status, data, port0, port1⟩ := h
    by_cases hr : 0x2000 ≤ storageIndex a.toNat ∧ storageIndex a.toNat < 0x4000
    · have := reg hr.2
      rw [s.memRead_register hr.1 hr.2, Ppu.regRead_state _ (by bv_omega) (by bv_omega)]
    · rw [s.memRead_cell (by omega)]
  · rw [s.memRead_register (by omega) (by omega), status]
    rfl
  · rw [s.memRead_register (by omega) (by omega), data]
    exact congrArg (fun u => { s with ppu := u }) s.ppu.dataRead_state
  · simp only [List.mem_cons, List.not_mem_nil, or_false] at ports
    rcases ports with port0 | port1
    · exact ⟨_, by rw [s.memRead_port0 port0]⟩
    · exact ⟨_, by rw [s.memRead_port1 port1]⟩
  · exact s.memWrite_only_cell v (by simp only [List.mem_singleton] at hv; omega)
  · exact s.memWrite_mem_read v fun _ => hc

end Sys2Proof.Machine
end

section
/-! SUPPORT. PPU redirection on numbers (spec/20_memory.md R120). -/

namespace Sys2Proof.Machine

/-- The physical name table of logical table n, on numbers (R120). -/
def physicalTableAt (m : Mirroring) (n : Nat) : Nat :=
  match m with
  | .vertical => n % 2
  | .horizontal => n / 2
  | .singleLower => 0
  | .singleUpper => 1

theorem physicalTable_toNat (m : Mirroring) (n : Addr) : (physicalTable m n).toNat = physicalTableAt m n.toNat := by
  cases m with
  | vertical => exact and_low_mask_toNat n 1 (by decide)
  | horizontal => exact BitVec.toNat_ushiftRight n 1
  | singleLower | singleUpper => rfl

theorem physicalTableAt_le (m : Mirroring) {n : Nat} (h : n < 4) : physicalTableAt m n ≤ 1 := by
  cases m <;> simp only [physicalTableAt] <;> omega

theorem paletteCell_toNat (a : Addr) :
    (paletteCell a).toNat =
      if a.toNat % 32 ∈ [0x10, 0x14, 0x18, 0x1C] then a.toNat % 32 - 0x10 else a.toNat % 32 := by
  have low : (a &&& 0x001F#16).toNat = a.toNat % 32 := and_low_mask_toNat a 5 (by decide)
  rw [paletteCell, ← low]
  generalize a &&& 0x001F#16 = p
  simp only [List.mem_cons, List.not_mem_nil, or_false]
  split_ifs <;> bv_omega

/-- The cell of a name-table address: its physical table, and the offset in it (R120). -/
theorem nameTableCell_toNat (m : Mirroring) (a : Addr) :
    (0x2000#16 + physicalTable m ((a >>> 10) &&& 3#16) * 0x0400#16 + (a &&& 0x03FF#16)).toNat =
      0x2000 + physicalTableAt m (a.toNat / 0x400 % 4) * 0x400 + a.toNat % 0x400 := by
  have table : ((a >>> 10) &&& 3#16).toNat = a.toNat / 0x400 % 4 := by
    rw [← Nat.shiftRight_eq_div_pow a.toNat 10, ← BitVec.toNat_ushiftRight]
    exact and_low_mask_toNat _ 2 (by decide)
  have offset : (a &&& 0x03FF#16).toNat = a.toNat % 0x400 := and_low_mask_toNat a 10 (by decide)
  have physical := physicalTable_toNat m ((a >>> 10) &&& 3#16)
  have small := physicalTable_le m ((a >>> 10) &&& 3#16) (by omega)
  rw [table] at physical
  rw [← physical, ← offset]
  generalize physicalTable m _ = p at small
  generalize a &&& 0x03FF#16 = o at offset
  bv_omega

section

variable (m : Mirroring) (a : Addr)

/-- An address taken mod $4000 (R120). -/
theorem ppuAddress_toNat : (a &&& 0x3FFF#16).toNat = a.toNat % 0x4000 := and_low_mask_toNat a 14 (by decide)

theorem ppuRedirect_pattern (h : a.toNat % 0x4000 < 0x2000) : (ppuRedirect m a).toNat = a.toNat % 0x4000 := by
  rw [← ppuAddress_toNat] at h ⊢
  unfold ppuRedirect
  generalize a &&& 0x3FFF#16 = b at h
  have notAliased : ¬ 0x3000#16 ≤ b := by bv_omega
  rw [if_neg (by bv_omega), if_neg notAliased, if_neg (by bv_omega)]

theorem ppuRedirect_nameTable (h : 0x2000 ≤ a.toNat % 0x4000) (h' : a.toNat % 0x4000 < 0x3F00) :
    (ppuRedirect m a).toNat =
      0x2000 + physicalTableAt m (a.toNat % 0x4000 / 0x400 % 4) * 0x400 + a.toNat % 0x4000 % 0x400 := by
  rw [← ppuAddress_toNat] at h h' ⊢
  unfold ppuRedirect
  generalize a &&& 0x3FFF#16 = b at h h'
  rw [if_neg (by bv_omega)]
  by_cases aliased : 0x3000#16 ≤ b
  · have low : (b - 0x1000#16).toNat = b.toNat - 0x1000 := by bv_omega
    have table : (b.toNat - 0x1000) / 0x400 % 4 = b.toNat / 0x400 % 4 := by omega
    have offset : (b.toNat - 0x1000) % 0x400 = b.toNat % 0x400 := by omega
    rw [if_pos aliased, if_pos (by bv_omega), nameTableCell_toNat, low, table, offset]
  · rw [if_neg aliased, if_pos (by bv_omega), nameTableCell_toNat]

theorem ppuRedirect_palette (h : 0x3F00 ≤ a.toNat % 0x4000) :
    (ppuRedirect m a).toNat = 0x3F00 + (paletteCell (a &&& 0x3FFF#16)).toNat := by
  rw [← ppuAddress_toNat] at h
  unfold ppuRedirect
  generalize a &&& 0x3FFF#16 = b at h
  have small := paletteCell_le b
  rw [if_pos (by bv_omega)]
  bv_omega

end

/-- Settles O48: the three ranges of R120; the two table selections of a name table end below $2800. -/
theorem ppuRedirection : Obligations.PpuRedirection := by
  intro m a b r table physical
  have hp : physicalTableAt m table = physical := by cases m <;> rfl
  have pattern : b < 0x2000 → r = b := ppuRedirect_pattern m a
  have nameTable : 0x2000 ≤ b → b < 0x3F00 → r = 0x2000 + physical * 0x400 + b % 0x400 := fun h h' =>
    hp ▸ ppuRedirect_nameTable m a h h'
  have palette : 0x3F00 ≤ b → r = 0x3F00 + (paletteCell (a &&& 0x3FFF#16)).toNat := ppuRedirect_palette m a
  have tables : physical ≤ 1 := hp ▸ physicalTableAt_le m (Nat.mod_lt _ (by decide))
  have cells := paletteCell_le (a &&& 0x3FFF#16)
  refine ⟨pattern, nameTable, fun h => ?_, by omega⟩
  rw [palette h, paletteCell_toNat, ppuAddress_toNat]

end Sys2Proof.Machine
end

section
/-! SUPPORT. The cells an instruction or a step stores to: what a chain of operations may write in memory. -/

namespace Sys2Proof.Machine

/-- From `s` to `t` the mapper range stays, and no cell of memory changes but the writable ones at the addresses `as`. -/
structure StoresOnlyAt (as : List Addr) (s t : State) : Prop where
  range : t.mapperRange = s.mapperRange
  cells : ∀ c, (WritableCell s.mapperRange c → ∀ a ∈ as, c ≠ storageIndex a.toNat) → t.mem.read c = s.mem.read c

/-- The address a descriptor stores to, if it is one (R17). -/
def Descriptor.storeAddrs : Descriptor → List Addr
  | .addr a => [a]
  | .acc | .imm _ => []

theorem Descriptor.mem_storeAddrs {d : Descriptor} {a : Addr} : a ∈ d.storeAddrs ↔ d = .addr a := by
  cases d <;> simp [Descriptor.storeAddrs, eq_comm]

namespace StoresOnlyAt

theorem refl (s : State) : StoresOnlyAt [] s s := ⟨rfl, fun _ _ => rfl⟩

variable {as : List Addr} {ps : List Aspect} {s t u : State}

/-- An operation with neither memory nor the mapper range in its footprint stores nothing. -/
theorem keep (h : StoresOnlyAt as s t) (k : ChangesOnly ps t u) (hm : .memory ∉ ps := by decide)
    (ho : .outside ∉ ps := by decide) : StoresOnlyAt as s u := by
  have mem : u.mem = t.mem := k .memory hm
  obtain ⟨-, -, range, -⟩ : Aspect.outside.Kept t u := k .outside ho
  exact ⟨range.trans h.range, fun c hc => mem ▸ h.cells c hc⟩

/-- An operation that stores nothing, before others. -/
theorem trans (h : StoresOnlyAt [] s t) (k : StoresOnlyAt as t u) : StoresOnlyAt as s u :=
  ⟨k.range.trans h.range, fun c hc => (k.cells c (h.range ▸ hc)).trans (h.cells c fun _ _ => nofun)⟩

/-- A cell at none of the addresses reads as before. -/
theorem read_eq (h : StoresOnlyAt as s t) {c : Nat} (hc : ∀ a ∈ as, c ≠ (redirect a).toNat) :
    t.mem.read c = s.mem.read c :=
  h.cells c fun _ a ha => redirect_toNat a ▸ hc a ha

theorem memWrite (h : StoresOnlyAt as s t) (a : Addr) (b : Byte) : StoresOnlyAt (a :: as) s (t.memWrite a b) := by
  refine ⟨by simpa using h.range, fun c hc => ?_⟩
  rw [t.memWrite_mem_read b fun hw => hc (h.range ▸ hw) a List.mem_cons_self]
  exact h.cells c fun hw a' ha => hc hw a' (List.mem_cons_of_mem a ha)

theorem push (h : StoresOnlyAt as s t) (b : Byte) : StoresOnlyAt (word16 1#8 t.sp :: as) s (t.push b) :=
  (h.memWrite t.stackCell b).keep ((ChangesOnly.refl _).setSp _)

theorem push16 (s : State) (w : Addr) :
    StoresOnlyAt [word16 1#8 (s.sp - 1), word16 1#8 s.sp] s (s.push16 w) := by
  have sp : (s.push (hi w)).sp = s.sp - 1 := by rw [State.push_eq]
  exact sp ▸ ((refl s).push (hi w)).push (lo w)

theorem enterInterrupt (s : State) (ret : Addr) (b4 : Bool) (v : Addr) :
    StoresOnlyAt [word16 1#8 (s.sp - 2), word16 1#8 (s.sp - 1), word16 1#8 s.sp] s (s.enterInterrupt ret b4 v) := by
  have sp : (s.push16 ret).sp = s.sp - 2 := by rw [State.push16_eq]
  have pushed := sp ▸ (push16 s ret).push (s.p.pushedByte b4)
  exact pushed.keep
    ((((ChangesOnly.refl _).setP flagAspects _ fun _ hf hn => absurd hf hn).readPair v (v + 1)).setPc _)

theorem store (h : StoresOnlyAt [] s t) (d : Descriptor) (b : Byte) : StoresOnlyAt d.storeAddrs s (t.store d b) := by
  cases d with
  | acc => exact h.keep ((ChangesOnly.refl t).setA b)
  | imm k => exact h
  | addr a => exact h.memWrite a b

theorem operand (s : State) (d : Descriptor) : StoresOnlyAt [] s (s.operand d).2 :=
  (refl s).keep ((ChangesOnly.refl s).operand d)

theorem shiftOperand (s : State) (d : Descriptor) (f : Byte → Flags → Byte × Flags) :
    StoresOnlyAt d.storeAddrs s (s.shiftOperand d f).2 :=
  ((operand s d).keep ((ChangesOnly.refl _).setP flagAspects _ fun _ hf hn => absurd hf hn)).store d _

theorem underUnstablePolicy (h : StoresOnlyAt as s t) : StoresOnlyAt as s (s.underUnstablePolicy t) := by
  rcases s.underUnstablePolicy_cases t with ⟨-, e⟩ | ⟨-, e⟩ <;> rw [e]
  · exact h
  · exact ⟨rfl, fun _ _ => rfl⟩

end StoresOnlyAt

/-- The addresses a mnemonic stores to, given its resolved operand: the operand's (R204–R206, R271–R280, R400–R408), the
stack cells (R40, R332, R350), the unstable address (R430–R434), or none. -/
def storedAddrs (mn : String) (r : Resolved) (s : State) : List Addr :=
  if mn ∈ ["STA", "STX", "STY", "SAX", "INC", "DEC", "ASL", "LSR", "ROL", "ROR", "SLO", "RLA", "SRE", "RRA", "DCP",
      "ISC"] then r.desc.storeAddrs
  else if mn ∈ ["PHA", "PHP"] then [word16 1#8 s.sp]
  else if mn = "JSR" then [word16 1#8 (s.sp - 1), word16 1#8 s.sp]
  else if mn = "BRK" then [word16 1#8 (s.sp - 2), word16 1#8 (s.sp - 1), word16 1#8 s.sp]
  else if mn = "SHA" ∨ mn = "TAS" then [r.unstableAddr (s.a &&& s.x &&& r.basePageNext)]
  else if mn = "SHX" then [r.unstableAddr (s.x &&& r.basePageNext)]
  else if mn = "SHY" then [r.unstableAddr (s.y &&& r.basePageNext)]
  else []

/-- Each handler stores at its mnemonic's addresses only; one without memory in its footprint stores nowhere. -/
theorem Meaning.stores {mn : String} {h : Handler} {fp : Bool → List Aspect} (hm : Meaning mn h fp) (r : Resolved)
    (s : State) : StoresOnlyAt (storedAddrs mn r s) s (h r s) := by
  have start := StoresOnlyAt.refl s
  have read := StoresOnlyAt.operand s r.desc
  have changes := hm.changes r s
  cases hm with
  | sta | stx | sty | sax => exact start.store r.desc _
  | inc | dec => exact (read.store r.desc _).keep ((ChangesOnly.refl _).setNZ _)
  | asl | lsr | rol | ror => exact (StoresOnlyAt.shiftOperand s r.desc _).keep ((ChangesOnly.refl _).setNZ _)
  | slo | rla | sre => exact (StoresOnlyAt.shiftOperand s r.desc _).keep (((ChangesOnly.refl _).setA _).setNZ _)
  | rra => exact (StoresOnlyAt.shiftOperand s r.desc _).keep ((ChangesOnly.refl _).addToA _)
  | dcp =>
    exact (read.store r.desc _).keep ((ChangesOnly.refl _).setP flagAspects _ fun _ hf hn => absurd hf hn)
  | isc => exact (read.store r.desc _).keep ((ChangesOnly.refl _).addToA _)
  | pha | php => exact start.push _
  | jsr => exact (StoresOnlyAt.push16 s _).keep ((ChangesOnly.refl _).setPc _)
  | brk => exact (StoresOnlyAt.enterInterrupt s _ _ _).keep (ChangesOnly.refl _).setStop
  | sha | shx | shy => exact (start.memWrite _ _).underUnstablePolicy
  | tas => exact ((start.keep ((ChangesOnly.refl s).setSp _)).memWrite _ _).underUnstablePolicy
  | _ =>
    beta_reduce at changes
    exact start.keep changes

/-- An instruction stores at its mnemonic's addresses only. -/
theorem exec_stores {i : Instr} {s t : State} (he : exec i s = .next t) :
    StoresOnlyAt (storedAddrs i.row.mnemonic (resolve i.operand s).1 s) s t := by
  obtain ⟨h, fp, base, hm, -, hr⟩ := exec_eq_runInstr i
  rw [hr, runInstr_next] at he
  injection he with he
  subst he
  have same : storedAddrs i.row.mnemonic (resolve i.operand s).1 (resolve i.operand s).2 =
      storedAddrs i.row.mnemonic (resolve i.operand s).1 s := by
    simp only [storedAddrs, resolve_sp, resolve_a, resolve_x, resolve_y]
  have resolved := (StoresOnlyAt.refl s).keep ((ChangesOnly.refl s).resolve i.operand)
  exact same ▸ (resolved.trans (hm.stores _ _)).keep ((ChangesOnly.refl _).addCycles _)

/-- Settles O60: the addresses of `storedAddrs`, as cells of memory. -/
theorem memoryChangesOnlyWhereStored : Obligations.MemoryChangesOnlyWhereStored := by
  intro i s t he mn r unstable
  have h : StoresOnlyAt (storedAddrs mn r s) s t := exec_stores he
  unfold storedAddrs at h
  split_ifs at h ⊢
  · exact fun c hc => h.read_eq fun a ha => hc a (Descriptor.mem_storeAddrs.mp ha)
  · exact fun c hc => h.read_eq (by simpa [word16_stackPage_eq_stackIndex] using hc)
  · exact fun c hc hc' => h.read_eq (by simpa [word16_stackPage_eq_stackIndex] using And.intro hc' hc)
  · exact fun c hc hc' hc'' =>
      h.read_eq (by simpa [word16_stackPage_eq_stackIndex] using And.intro hc'' (And.intro hc' hc))
  · exact fun c hc => h.read_eq (by simpa using hc)
  · exact fun c hc => h.read_eq (by simpa using hc)
  · exact fun c hc => h.read_eq (by simpa using hc)
  · exact fun c => h.read_eq (by simp)

/-- What a step stores: an instruction its addresses, an interrupt entry three stack cells, any other event nothing. -/
theorem step_stores {s t : State} (h : step s = .next t) : ∃ as, StoresOnlyAt as s t := by
  have start := StoresOnlyAt.refl s
  cases step_cases h with
  | instr _ i hr => exact ⟨_, (start.keep (ChangesOnly.fetchInstr s)).trans (exec_stores hr.run)⟩
  | idle => exact ⟨_, start.keep (ChangesOnly.idle s)⟩
  | nmi =>
    exact ⟨_, ((start.keep (ChangesOnly.refl s).clearNmi).trans (.enterInterrupt _ _ _ _)).keep
      ((ChangesOnly.refl _).addCycles _)⟩
  | irq => exact ⟨_, (StoresOnlyAt.enterInterrupt s _ _ _).keep ((ChangesOnly.refl _).addCycles _)⟩
  | dma => exact ⟨_, start.keep (ChangesOnly.dmaTransfer s)⟩
  | dot => exact ⟨[], rfl, fun _ _ => rfl⟩
  | host =>
    rw [State.hostStep_eq]
    exact ⟨[], rfl, fun _ _ => rfl⟩

/-- No step writes the mapper range, the mirroring mode or the parameters (R50, R123). -/
theorem step_keeps_configuration {s t : State} (h : step s = .next t) :
    t.mapperRange = s.mapperRange ∧ t.ppu.mirroring = s.ppu.mirroring ∧ t.params = s.params := by
  have fixed : ∀ {u : State}, Aspect.outside.Kept s u →
      u.mapperRange = s.mapperRange ∧ u.ppu.mirroring = s.ppu.mirroring ∧ u.params = s.params :=
    fun ⟨_, _, range, params, _, _, _, _, _, _, mirroring⟩ => ⟨range, mirroring, params⟩
  cases step_cases h with
  | instr _ i hr =>
    have fetched : Aspect.outside.Kept s s.fetchInstr.2 := ChangesOnly.fetchInstr s .outside (by decide)
    exact fixed (fetched.trans (exec_keeps hr.run .outside List.not_mem_nil))
  | idle => exact fixed (ChangesOnly.idle s .outside (by decide))
  | nmi => exact fixed (ChangesOnly.nmiEntry s .outside (by decide))
  | irq => exact fixed (ChangesOnly.irqEntry s .outside (by decide))
  | dma => exact fixed (ChangesOnly.dmaTransfer s .outside (by decide))
  | dot => exact ⟨rfl, Ppu.tick_mirroring s.ppu s.params.vblankClearOffset, rfl⟩
  | host =>
    rw [State.hostStep_eq]
    exact ⟨rfl, rfl, rfl⟩

/-- Settles O12: a step stores to writable cells only, and the cells of the statement are not writable. -/
theorem readOnlyCellsNeverChange : Obligations.ReadOnlyCellsNeverChange := by
  intro s t h
  obtain ⟨range, mirroring, params⟩ := step_keeps_configuration h
  obtain ⟨as, stores⟩ := step_stores h
  refine ⟨range, mirroring, params, fun c hc => stores.cells c fun hw => ?_⟩
  have readOnly : ¬ WritableCell s.mapperRange c := by
    unfold WritableCell
    omega
  exact absurd hw readOnly

end Sys2Proof.Machine
end

section
/-! SUPPORT. The decoder and the encoder (spec/30_encoding.md R140–R151, R175): what each says of the
other. -/

namespace Sys2Proof

theorem Mode.operandBytes_le (m : Mode) : m.operandBytes ≤ 2 := by
  cases m <;> decide

/-- The operand bytes are as many as the mode consumes (R142). -/
theorem Operand.bytes_length (o : Operand) : o.bytes.length = o.mode.operandBytes := by
  cases o <;> rfl

/-- The operand of a mode with the two bytes after the opcode (R141); those it does not consume are ignored. -/
def Mode.operandOf (b c : Byte) : Mode → Operand
  | .implied => .implied
  | .accumulator => .accumulator
  | .immediate => .immediate b
  | .zeroPage => .zeroPage b
  | .zeroPageX => .zeroPageX b
  | .zeroPageY => .zeroPageY b
  | .absolute => .absolute (word16 c b)
  | .absoluteX => .absoluteX (word16 c b)
  | .absoluteY => .absoluteY (word16 c b)
  | .indirect => .indirect (word16 c b)
  | .indexedIndirect => .indexedIndirect b
  | .indirectIndexed => .indirectIndexed b
  | .relative => .relative b

/-- A mode's operand stands in memory as the bytes it was made of (R141, R142). -/
theorem Mode.operandOf_bytes (m : Mode) (b c : Byte) : (m.operandOf b c).bytes = [b, c].take m.operandBytes := by
  cases m <;> simp [Mode.operandOf, Operand.bytes, Mode.operandBytes]

/-- Row by row, what a builder makes has the operand of the row's mode (R175). -/
theorem builders_operand (b c : Byte) :
    builders.map (fun f => (f b c).operand) = opTable.map fun row => row.mode.operandOf b c := by
  simp only [builders, opTable, List.map_append]
  repeat refine congrArg₂ (· ++ ·) ?_ rfl
  rfl

/-- The instruction built for an opcode byte has its row's operand, made of the two bytes after it (R175). -/
theorem build_operand (op b c : Byte) : (build op b c).operand = (opRow op).mode.operandOf b c := by
  calc (build op b c).operand
      = (builders.map fun f => (f b c).operand).getD op.toNat .implied :=
        (List.getD_map builders (fun _ _ => .brk) fun f => (f b c).operand).symm
    _ = (opTable.map fun row => row.mode.operandOf b c).getD op.toNat .implied := by rw [builders_operand]
    _ = (opRow op).mode.operandOf b c :=
        List.getD_map opTable ⟨"", .implied, 0, false, false⟩ fun row => row.mode.operandOf b c

/-- The builder of an instruction's opcode gives the instruction back from its operand bytes (R141, R175). -/
theorem Instr.rebuild (i : Instr) : Laws.Rebuild.Statement i := by
  cases i
  case nopAbs w | oraAbs w | aslAbs w | sloAbs w | oraAbsY w | sloAbsY w | nopAbsX1C w | oraAbsX w | aslAbsX w
    | sloAbsX w | jsr w | bitAbs w | andAbs w | rolAbs w | rlaAbs w | andAbsY w | rlaAbsY w | nopAbsX3C w | andAbsX w
    | rolAbsX w | rlaAbsX w | jmpAbs w | eorAbs w | lsrAbs w | sreAbs w | eorAbsY w | sreAbsY w | nopAbsX5C w
    | eorAbsX w | lsrAbsX w | sreAbsX w | jmpInd w | adcAbs w | rorAbs w | rraAbs w | adcAbsY w | rraAbsY w
    | nopAbsX7C w | adcAbsX w | rorAbsX w | rraAbsX w | styAbs w | staAbs w | stxAbs w | saxAbs w | staAbsY w
    | tasAbsY w | shyAbsX w | staAbsX w | shxAbsY w | shaAbsY w | ldyAbs w | ldaAbs w | ldxAbs w | laxAbs w
    | ldaAbsY w | lasAbsY w | ldyAbsX w | ldaAbsX w | ldxAbsY w | laxAbsY w | cpyAbs w | cmpAbs w | decAbs w
    | dcpAbs w | cmpAbsY w | dcpAbsY w | nopAbsXDC w | cmpAbsX w | decAbsX w | dcpAbsX w | cpxAbs w | sbcAbs w
    | incAbs w | iscAbs w | sbcAbsY w | iscAbsY w | nopAbsXFC w | sbcAbsX w | incAbsX w | iscAbsX w =>
    exact congrArg _ (word16_hi_lo w)
  all_goals rfl

/-- The instruction an opcode byte and its operand bytes stand for (R140, R175). -/
def buildFrom (op : Byte) (bytes : List Byte) : Instr := build op (bytes.getD 0 0) (bytes.getD 1 0)

@[simp] theorem buildFrom_opcode (op : Byte) (bytes : List Byte) : (buildFrom op bytes).opcode = op :=
  Machine.build_opcode op _ _

/-- Encoding an instruction made of an opcode byte and as many operand bytes as its mode consumes gives those bytes
(R140, R141). -/
theorem encode_buildFrom {op : Byte} {bytes : List Byte} (h : bytes.length = (opRow op).mode.operandBytes) :
    encode (buildFrom op bytes) = op :: bytes := by
  have operand : (buildFrom op bytes).operand.bytes = [bytes.getD 0 0, bytes.getD 1 0].take bytes.length := by
    rw [buildFrom, build_operand, Mode.operandOf_bytes, h]
  rw [encode, buildFrom_opcode, operand]
  match bytes, h ▸ (opRow op).mode.operandBytes_le with
  | [], _ | [_], _ | [_, _], _ => rfl

/-- The decoder reads an opcode byte and as many operand bytes as its row's mode consumes, and leaves the rest
(R140–R142). -/
theorem decode_cons_iff {op : Byte} {tail rest : List Byte} {i : Instr} :
    decode (op :: tail) = .ok (i, rest) ↔
      ∃ bytes, bytes.length = (opRow op).mode.operandBytes ∧ tail = bytes ++ rest ∧ i = buildFrom op bytes := by
  constructor
  · intro h
    simp only [decode] at h
    split at h
    next h0 =>
      cases h
      exact ⟨[], h0.symm, rfl, rfl⟩
    next b bs h1 =>
      cases h
      exact ⟨[b], h1.symm, rfl, rfl⟩
    next b c bs h2 =>
      cases h
      exact ⟨[b, c], h2.symm, rfl, rfl⟩
    next => cases h
  · rintro ⟨bytes, h, rfl, rfl⟩
    match bytes, h, h ▸ (opRow op).mode.operandBytes_le with
    | [], h, _ | [_], h, _ | [_, _], h, _ => simp [decode, ← h, buildFrom]

/-- Bytes that are enough for an opcode's mode decode (R151, R182). -/
theorem decode_of_operandBytes_le {op : Byte} {tail : List Byte} (h : (opRow op).mode.operandBytes ≤ tail.length) :
    decode (op :: tail) =
      .ok (buildFrom op (tail.take (opRow op).mode.operandBytes), tail.drop (opRow op).mode.operandBytes) :=
  decode_cons_iff.mpr ⟨_, List.length_take_of_le h, (List.take_append_drop ..).symm, rfl⟩

/-- An instruction's encoding is as long as its row says (R142). -/
theorem encode_length (i : Instr) : (encode i).length = i.row.length := by
  rw [encode, List.length_cons, Operand.bytes_length, Machine.operand_mode, OpRow.length, Nat.add_comm]

/-- Settles O1: the decoder takes the operand bytes off and builds the instruction again from them. -/
theorem decodeInvertsEncode : Obligations.DecodeInvertsEncode := fun i _ _ =>
  decode_cons_iff.mpr
    ⟨i.operand.bytes, i.operand.bytes_length.trans (congrArg _ (Machine.operand_mode i)), rfl, i.rebuild.symm⟩

/-- Settles O2: the bytes the decoder took off are the operand bytes of what it built. -/
theorem decodedBytesAreTheEncoding : Obligations.DecodedBytesAreTheEncoding := by
  intro bytes rest i h
  match bytes with
  | [] => cases h
  | op :: tail =>
    obtain ⟨taken, hl, rfl, rfl⟩ := decode_cons_iff.mp h
    rw [encode_buildFrom hl, List.cons_append]

end Sys2Proof
end

section
/-! SUPPORT. The fetch from storage (spec/20_memory.md R114, spec/30_encoding.md R150), and what runs in a step. -/

namespace Sys2Proof.Machine

/-- A fetch at an address that reads storage has no side effect (R114). -/
theorem State.memRead_of_fetchesStorage (s : State) {a : Addr} (h : fetchesStorage a = true) :
    s.memRead a = (s.mem.read (redirect a).toNat, s) := by
  cases hc : readClass (redirect a) with
  | ram | flat => simp only [State.memRead, hc]
  | ppuRegister n | controller port => simp [fetchesStorage, hc] at h

/-- The bytes stand in storage from address `a` on. -/
def State.Stores (s : State) (a : Addr) (bytes : List Byte) : Prop :=
  ∀ n < bytes.length, fetchesStorage (a + BitVec.ofNat 16 n) = true ∧
    s.mem.read (redirect (a + BitVec.ofNat 16 n)).toNat = bytes.getD n 0

theorem State.Stores.cons {s : State} {a : Addr} {b : Byte} {bytes : List Byte} (h : s.Stores a (b :: bytes)) :
    s.memRead a = (b, s) ∧ s.Stores (a + 1) bytes := by
  constructor
  · obtain ⟨storage, byte⟩ : fetchesStorage a = true ∧ s.mem.read (redirect a).toNat = b := by
      simpa using h 0 (Nat.succ_pos _)
    rw [s.memRead_of_fetchesStorage storage, byte]
  · intro n hn
    have next : a + BitVec.ofNat 16 (n + 1) = a + 1 + BitVec.ofNat 16 n := by
      rw [BitVec.add_assoc, Nat.add_comm, BitVec.ofNat_add]
      rfl
    exact next ▸ h (n + 1) (Nat.succ_lt_succ hn)

/-- Fetching bytes that stand in storage gives them and only moves PC (R150). -/
theorem State.fetchBytes_of_stores {s : State} {bytes : List Byte} (h : s.Stores s.pc bytes) :
    State.fetchBytes bytes.length s = (bytes, { s with pc := s.pc + BitVec.ofNat 16 bytes.length }) := by
  induction bytes generalizing s with
  | nil => simp [State.fetchBytes]
  | cons b bytes ih =>
    obtain ⟨head, tail⟩ := h.cons
    have fetched : s.fetch8 = (b, s.setPc (s.pc + 1)) := by rw [State.fetch8, head]
    have rest := ih (s := s.setPc (s.pc + 1)) tail
    rw [List.length_cons, State.fetchBytes, fetched, rest]
    simp [State.setPc, BitVec.add_assoc, ← BitVec.ofNat_add, Nat.add_comm]

/-- The fetch of an instruction reads as many bytes as its row's length (R142, R150). -/
theorem State.fetchInstr_eq_fetchBytes (s : State) :
    s.fetchInstr = State.fetchBytes (opRow s.fetch8.1).length s := by
  rw [OpRow.length, Nat.add_comm]
  rfl

/-- Fetching an instruction whose encoding stands in storage gives its bytes and only moves PC (R150). -/
theorem State.fetchInstr_of_stores {s : State} {i : Instr} (h : s.Stores s.pc (encode i)) :
    s.fetchInstr = (encode i, { s with pc := s.pc + BitVec.ofNat 16 (encode i).length }) := by
  have opcode : s.fetch8.1 = i.opcode := congrArg Prod.fst h.cons.1
  have length : (opRow s.fetch8.1).length = (encode i).length := opcode ▸ (encode_length i).symm
  rw [State.fetchInstr_eq_fetchBytes, length]
  exact State.fetchBytes_of_stores h

/-! What runs in a step. -/

theorem executeInstruction_of_decode {s : State} {i : Instr} {rest : List Byte}
    (h : decode s.fetchInstr.1 = .ok (i, rest)) : executeInstruction s = exec i s.fetchInstr.2 := by
  simp only [executeInstruction, h]

/-- A step of a core that is due and undisturbed executes an instruction (R502, R520). -/
theorem step_eq_executeInstruction {s : State} (due : s.cycles < s.master) (running : s.stop = false)
    (notJammed : s.jammed = false) (notRefused : s.refused = false) (noNmi : s.nmiPending = false)
    (noIrq : s.irqLine = false) (noDma : s.dmaPending = false) : step s = executeInstruction s := by
  simp [step, advance, State.cpuDue, cpuDispatch, due, running, notJammed, notRefused, noNmi, noIrq, noDma]

/-- The fetch leaves PC past the instruction it decodes to (R35, R150). -/
theorem State.fetchInstr_pc {s : State} {i : Instr} {rest : List Byte} (h : decode s.fetchInstr.1 = .ok (i, rest)) :
    s.fetchInstr.2.pc = s.pc + BitVec.ofNat 16 (encode i).length := by
  obtain ⟨-, b, c, rfl⟩ := decode_fetchInstr h
  rw [State.fetchInstr_eq, encode_length, Instr.row, build_opcode]

end Sys2Proof.Machine
end

section
/-! SUPPORT. The addressing modes on numbers (spec/30_encoding.md R161–R173). -/

namespace Sys2Proof.Machine

theorem lo_toNat (w : Addr) : (lo w).toNat = w.toNat % 0x100 := by
  rw [lo, BitVec.extractLsb'_toNat, Nat.shiftRight_zero]

theorem hi_toNat (w : Addr) : (hi w).toNat = w.toNat / 0x100 := by
  have bound := w.isLt
  rw [hi, BitVec.extractLsb'_toNat, Nat.shiftRight_eq_div_pow]
  omega

theorem word16_toNat (h l : Byte) : (word16 h l).toNat = h.toNat * 0x100 + l.toNat := by
  rw [word16, BitVec.toNat_append, ← Nat.shiftLeft_add_eq_or_of_lt l.isLt, Nat.shiftLeft_eq]

theorem zext16_toNat (b : Byte) : (zext16 b).toNat = b.toNat :=
  BitVec.toNat_setWidth_of_le (by decide)

/-- An address in page zero from its number (R163–R165). -/
theorem zext16_eq_ofNat {b : Byte} {n : Nat} (h : b.toNat = n % 256) : zext16 b = BitVec.ofNat 16 (n % 256) := by
  rw [← h, ← zext16_toNat, BitVec.ofNat_toNat, BitVec.setWidth_eq]

/-- An indexed address and its page crossing (R168, R169). -/
theorem indexed_eq (base : Addr) (index : Byte) :
    indexed base index =
      ⟨.addr (BitVec.ofNat 16 (base.toNat + index.toNat)),
        decide ((base.toNat + index.toNat) % 0x10000 / 0x100 ≠ base.toNat / 0x100)⟩ := by
  have sum : base + zext16 index = BitVec.ofNat 16 (base.toNat + index.toNat) := by
    rw [← zext16_toNat index, BitVec.ofNat_add, BitVec.ofNat_toNat, BitVec.ofNat_toNat, BitVec.setWidth_eq,
      BitVec.setWidth_eq]
  have cross : (hi (base + zext16 index) != hi base) =
      decide ((base.toNat + index.toNat) % 0x10000 / 0x100 ≠ base.toNat / 0x100) := by
    rw [Bool.eq_iff_iff, bne_iff_ne, decide_eq_true_iff, ne_eq, ← BitVec.toNat_inj, hi_toNat, hi_toNat, sum,
      BitVec.toNat_ofNat]
  exact congrArg₂ Resolved.mk (congrArg Descriptor.addr sum) cross

theorem succ_toNat (b : Byte) : (b + 1).toNat = (b.toNat + 1) % 0x100 :=
  BitVec.toNat_add b 1

/-- The zero-page pointer at a number: both bytes come from page zero (R171, R172). -/
theorem State.zeroPagePointer_eq (s : State) {b : Byte} {n : Nat} (h : b.toNat = n % 256) :
    s.zeroPagePointer b = (word16 (s.mem.read ((n + 1) % 256)) (s.mem.read (n % 256)), s) := by
  have next : (b + 1).toNat = (n + 1) % 256 := by
    rw [succ_toNat, h, Nat.mod_add_mod]
  rw [State.zeroPagePointer, State.readPair_zeroPage, zext16_toNat, zext16_toNat, h, next]

/-- The high byte of JMP indirect's pointer comes from the same page as the low byte (R170). -/
theorem samePage_succ (w : Addr) :
    word16 (hi w) (lo w + 1) = BitVec.ofNat 16 (w.toNat / 0x100 * 0x100 + (w.toNat + 1) % 0x100) := by
  apply BitVec.eq_of_toNat_eq
  have bound := w.isLt
  rw [word16_toNat, hi_toNat, succ_toNat, lo_toNat, BitVec.toNat_ofNat]
  omega

end Sys2Proof.Machine
end

section
/-! SUPPORT. The statements about the encoding, the step and the addressing modes (spec/30_encoding.md R142–R173), settled
from the decoder's laws, the footprints and the fetch. -/

namespace Sys2Proof.Machine

/-- Settles O9: the frame of an instruction answers a next state, whatever its handler does. -/
theorem everyInstructionCompletes : Obligations.EveryInstructionCompletes := by
  intro i s
  obtain ⟨h, -, base, -, -, hr⟩ := exec_eq_runInstr i
  exact ⟨_, (hr s).trans (runInstr_next ..)⟩

/-- Settles O3: the operand bytes of the opcode's row are among the two that follow it. -/
theorem everyOpcodeDecodes : Obligations.EveryOpcodeDecodes := by
  intro op b c rest
  have enough : (opRow op).mode.operandBytes ≤ (b :: c :: rest).length :=
    (opRow op).mode.operandBytes_le.trans (Nat.le_add_left 2 rest.length)
  refine ⟨buildFrom op ((b :: c :: rest).take (opRow op).mode.operandBytes), buildFrom_opcode _ _, ?_,
    everyInstructionCompletes _⟩
  rw [decode_of_operandBytes_le enough, Instr.row, buildFrom_opcode]

/-- Settles O4: the operand bytes are those of the operand's mode, which is the row's. -/
theorem instructionLengthFollowsMode : Obligations.InstructionLengthFollowsMode :=
  ⟨fun i => ⟨encode_length i, operand_mode i, (encode_length i).symm⟩, rfl, rfl⟩

/-- Settles O5: each sample is an instruction's encoding, which the decoder inverts. -/
theorem sampleEncodingsDecode : Obligations.SampleEncodingsDecode :=
  have sample : ∀ i : Instr, decode (encode i ++ []) = .ok (i, []) := fun i => decodeInvertsEncode i [] rfl
  ⟨sample (.ldaImm 0x10), sample (.staAbs 0x0200), sample .aslAcc, sample (.jmpInd 0x02FF), sample (.bne 0xFC),
    sample (.ldaIndY 0x40), sample (.shaAbsY 0x1200), sample .jam02, sample .brk⟩

/-- Settles O6: the decoder inverts the encoding the fetch reads from storage. -/
theorem stepRunsDecodedInstruction : Obligations.StepRunsDecodedInstruction := by
  intro s i due running notJammed notRefused noNmi noIrq noDma _
  rw [step_eq_executeInstruction due running notJammed notRefused noNmi noIrq noDma]
  refine ⟨fun stored => ?_, fun rest hd => ⟨executeInstruction_of_decode hd, State.fetchInstr_pc hd⟩⟩
  have fetched : s.fetchInstr = _ := State.fetchInstr_of_stores stored
  have decoded : decode s.fetchInstr.1 = .ok (i, []) := by
    rw [fetched, ← List.append_nil (encode i)]
    exact decodeInvertsEncode i [] rfl
  rw [executeInstruction_of_decode decoded, fetched]

/-- No branch and no JAM has the page penalty (R175). -/
theorem pagePenalty_eq_false (op : Byte) (h : (opRow op).mode = .relative ∨ (opRow op).mnemonic = "JAM") :
    (opRow op).pagePenalty = false := by
  revert op
  decide

/-- Settles O16: the frame adds the row's count and the penalty, and no handler but a branch's and JAM's adds to the
cycles. -/
theorem cyclesAreBaseCountPlusPagePenalty : Obligations.CyclesAreBaseCountPlusPagePenalty := by
  intro i s
  refine ⟨fun hc => by simpa using resolve_cross i.operand s hc, fun hi => ?_, fun hmode hjam => ?_⟩
  · exact pagePenalty_eq_false i.opcode (operand_mode i ▸ hi)
  obtain ⟨h, fp, base, hm, hbase, hr⟩ := exec_eq_runInstr i
  refine ⟨_, (hr s).trans (runInstr_next ..), ?_⟩
  have noWriter : i.row.mnemonic ∉ Aspect.cycles.writers := fun hw => by
    have hw : i.row.mnemonic ∈ ["BPL", "BMI", "BVC", "BVS", "BCC", "BCS", "BNE", "BEQ"] ++ ["JAM"] := hw
    rcases List.mem_append.mp hw with branch | jam
    · exact hmode ((operand_mode i).trans (mode_of_branch i.opcode branch))
    · exact hjam (List.mem_singleton.mp jam)
  have kept : (h (resolve i.operand s).1 (resolve i.operand s).2).cycles = s.cycles := by
    rw [← resolve_cycles i.operand s]
    refine hm.changes _ _ .cycles fun hq => ?_
    exact (hm.mem_writers _ _ hq).elim noWriter nofun
  rw [State.addCycles_cycles, kept, hbase.resolve_right hjam, Nat.add_assoc]
  simp only [Bool.and_eq_true]

/-- Settles O47: the zero-page addresses, the indexed addresses and the two pointers on numbers; the other modes give
their operand as it is. -/
theorem addressModes : Obligations.AddressModes := by
  intro s z k w zp cell plus pointer low high
  have direct : zext16 z = zp z.toNat := zext16_eq_ofNat (Nat.mod_eq_of_lt z.isLt).symm
  have plusX : zext16 (z + s.x) = zp (z.toNat + s.x.toNat) := zext16_eq_ofNat (BitVec.toNat_add z s.x)
  have plusY : zext16 (z + s.y) = zp (z.toNat + s.y.toNat) := zext16_eq_ofNat (BitVec.toNat_add z s.y)
  have indexedPointer : s.zeroPagePointer (z + s.x) = (pointer (z.toNat + s.x.toNat), s) :=
    s.zeroPagePointer_eq (BitVec.toNat_add z s.x)
  have pointerAt : s.zeroPagePointer z = (pointer z.toNat, s) :=
    s.zeroPagePointer_eq (Nat.mod_eq_of_lt z.isLt).symm
  have jump : s.jumpPointer w = (word16 high.1 low.1, high.2) := by
    rw [State.jumpPointer, samePage_succ]
    rfl
  simp only [resolve, direct, plusX, plusY, indexedPointer, pointerAt, jump, indexed_eq, plus, and_self]

end Sys2Proof.Machine
end

section
/-! SUPPORT. What an instruction runs, by its mnemonic: the mnemonic's one handler in the frame of R150, on the forms and
with the page penalties of the table (R151, R152, R175). -/

namespace Sys2Proof.Machine

/-- The handler of each mnemonic, as a table (R151). -/
def handlers : List (String × Handler) :=
  [("ADC", adc), ("SBC", sbc), ("USBC", usbc), ("AND", and), ("ORA", ora), ("EOR", eor), ("LDA", lda), ("LDX", ldx),
    ("LDY", ldy), ("CMP", cmp), ("CPX", cpx), ("CPY", cpy), ("BIT", bit), ("STA", sta), ("STX", stx), ("STY", sty),
    ("SAX", sax), ("INC", inc), ("DEC", dec), ("INX", inx), ("INY", iny), ("DEX", dex), ("DEY", dey), ("TAX", tax),
    ("TAY", tay), ("TXA", txa), ("TYA", tya), ("TSX", tsx), ("TXS", txs), ("PHA", pha), ("PHP", php), ("PLA", pla),
    ("PLP", plp), ("ASL", asl), ("LSR", lsr), ("ROL", rol), ("ROR", ror), ("SLO", slo), ("RLA", rla), ("SRE", sre),
    ("RRA", rra), ("DCP", dcp), ("ISC", isc), ("LAX", lax), ("LAS", las), ("LXA", lxa), ("ANE", ane), ("ANC", anc),
    ("ALR", alr), ("ARR", arr), ("SBX", sbx), ("SHA", sha), ("SHX", shx), ("SHY", shy), ("TAS", tas), ("JAM", jam),
    ("NOP", nop), ("CLC", clc), ("SEC", sec), ("CLI", cli), ("SEI", sei), ("CLD", cld), ("SED", sed), ("CLV", clv),
    ("JMP", jmp), ("JSR", jsr), ("RTS", rts), ("RTI", rti), ("BRK", brk), ("BPL", bpl), ("BMI", bmi), ("BVC", bvc),
    ("BVS", bvs), ("BCC", bcc), ("BCS", bcs), ("BNE", bne), ("BEQ", beq)]

/-- The table gives each mnemonic the handler its rows run. -/
theorem Meaning.lookup_handlers {mn : String} {h : Handler} {fp : Bool → List Aspect} (hm : Meaning mn h fp) :
    handlers.lookup mn = some h := by
  cases hm <;> rfl

/-- A mnemonic has one handler. -/
theorem Meaning.handler_unique {mn : String} {h h' : Handler} {fp fp' : Bool → List Aspect} (hm : Meaning mn h fp)
    (hm' : Meaning mn h' fp') : h = h' :=
  Option.some_inj.mp (hm.lookup_handlers.symm.trans hm'.lookup_handlers)

/-- Each row of the mnemonic is one of the forms, and has `page_penalty` if its opcode is listed (R175). -/
abbrev RowsOf (mn : String) (forms : List (Byte × Mode)) (penalized : List Byte) : Prop :=
  ∀ op : Byte, (opRow op).mnemonic = mn →
    (op, (opRow op).mode) ∈ forms ∧ (opRow op).pagePenalty = decide (op ∈ penalized)

/-- An instruction of a mnemonic other than JAM has one of its forms, and runs its handler at the cost of R150 and
R152. -/
theorem exec_of_mnemonic {mn : String} {h : Handler} {fp : Bool → List Aspect} {forms : List (Byte × Mode)}
    {penalized : List Byte} {i : Instr} (hm : Meaning mn h fp) (hi : i.row.mnemonic = mn) (s : State)
    (rows : RowsOf mn forms penalized := by decide) (notJam : mn ≠ "JAM" := by decide) :
    i.form ∈ forms ∧
      exec i s = .next ((h (resolve i.operand s).1 (resolve i.operand s).2).addCycles
        (i.costWith penalized (resolve i.operand s).1.cross)) := by
  obtain ⟨listed, penalty⟩ := rows i.opcode hi
  obtain ⟨h', fp', base, hm', hbase, run⟩ := exec_eq_runInstr i
  have count : base = i.row.cycles := hbase.resolve_right (hi ▸ notJam)
  have handler : h' = h := (hi ▸ hm').handler_unique hm
  have cost : (i.row.cycles + if i.row.pagePenalty && (resolve i.operand s).1.cross then 1 else 0) =
      i.costWith penalized (resolve i.operand s).1.cross := by
    simp only [Instr.row, penalty, Instr.costWith, Bool.and_eq_true, decide_eq_true_eq]
  refine ⟨?_, ?_⟩
  · rwa [Instr.form, operand_mode]
  · rw [run, runInstr_next, count, handler, cost]

/-- Where no opcode has the penalty, the cost is the row's count (R150). -/
@[simp] theorem costWith_nil (i : Instr) (cross : Bool) : i.costWith [] cross = i.row.cycles := by
  simp [Instr.costWith]

/-- The modes whose operand is an address (R163–R172): not those that consume no operand byte or take it as a value
(R161, R162, R173). -/
def givesAddress : Mode → Bool
  | .implied | .accumulator | .immediate | .relative => false
  | _ => true

theorem resolve_desc_of_givesAddress {o : Operand} (h : givesAddress o.mode = true) (s : State) :
    ∃ a, (resolve o s).1.desc = .addr a := by
  cases o with
  | implied | accumulator | immediate | relative => cases h
  | _ => exact ⟨_, rfl⟩

end Sys2Proof.Machine
end

section
/-! SUPPORT. The statements about loads, stores, register transfers and stack operations
(spec/40_load_store_transfer.md R200–R216), settled from the handlers in the frame of R150. -/

namespace Sys2Proof.Machine

/-- Settles O27: the handler reads the operand, which leaves the flags and the cycles as they were, and sets the
register, N and Z; with that, the records of the statement are the three handlers' by definition. -/
theorem loadsSetRegisterAndNZ : Obligations.LoadsSetRegisterAndNZ := by
  intro i s r m
  have flags : m.2.p = s.p := by rw [State.operand_p, resolve_p]
  have cycles : m.2.cycles = s.cycles := by rw [State.operand_cycles, resolve_cycles]
  rw [← flags, ← cycles]
  exact ⟨(exec_of_mnemonic .lda · s), (exec_of_mnemonic .ldx · s), (exec_of_mnemonic .ldy · s)⟩

/-- An instruction that stores a register through its operand, and has address forms only, makes one bus write of it and
adds its row's count (R204–R206). -/
theorem exec_of_register_store {mn : String} {reg : State → Byte} {fp : Bool → List Aspect}
    {forms : List (Byte × Mode)} {i : Instr} (hm : Meaning mn (fun r s => s.store r.desc (reg s)) fp)
    (hreg : ∀ o s, reg (resolve o s).2 = reg s) (hi : i.row.mnemonic = mn) (s : State)
    (rows : RowsOf mn forms [] := by decide) (addresses : ∀ f ∈ forms, givesAddress f.2 = true := by decide)
    (notJam : mn ≠ "JAM" := by decide) :
    i.form ∈ forms ∧ ∃ a, (resolve i.operand s).1.desc = .addr a ∧
      exec i s = .next { (resolve i.operand s).2.memWrite a (reg s) with cycles := s.cycles + i.row.cycles } := by
  obtain ⟨form, run⟩ := exec_of_mnemonic hm hi s rows notJam
  obtain ⟨a, ha⟩ := resolve_desc_of_givesAddress (addresses i.form form) s
  refine ⟨form, a, ha, ?_⟩
  rw [run, ha, hreg, costWith_nil, State.store_addr, State.addCycles, State.memWrite_cycles, resolve_cycles]

/-- Settles O28: each handler stores its register, which resolving leaves alone. -/
theorem storesWriteOnce : Obligations.StoresWriteOnce := fun _ s =>
  ⟨(exec_of_register_store (reg := State.a) .sta resolve_a · s),
    (exec_of_register_store (reg := State.x) .stx resolve_x · s),
    (exec_of_register_store (reg := State.y) .sty resolve_y · s)⟩

/-- Settles O29: each of the ten handlers in the frame of its row, by definition. -/
theorem transfersAndRegisterSteps : Obligations.TransfersAndRegisterSteps := fun _ =>
  ⟨⟨rfl, rfl⟩, ⟨rfl, rfl⟩, ⟨rfl, rfl⟩, ⟨rfl, rfl⟩, ⟨rfl, rfl⟩, ⟨rfl, rfl⟩, ⟨rfl, rfl⟩, ⟨rfl, rfl⟩, ⟨rfl, rfl⟩,
    ⟨rfl, rfl⟩⟩

theorem exec_pha (s : State) : exec .pha s = .next ((s.push s.a).addCycles 3) := rfl

theorem exec_pla (s : State) : exec .pla s = .next (((s.pull.2.setA s.pull.1).setNZ s.pull.1).addCycles 4) := rfl

/-- The byte PHP pushes has bits 5:4 = 11 (R37). -/
theorem Flags.pushedByte_true (p : Flags) :
    p.pushedByte true =
      BitVec.ofBool p.n ++ BitVec.ofBool p.v ++ 0b11#2 ++ BitVec.ofBool p.d ++ BitVec.ofBool p.i ++
        BitVec.ofBool p.z ++ BitVec.ofBool p.c := by
  obtain ⟨c, z, i, d, v, n⟩ := p
  revert c z i d v n
  decide

/-- A push and its cost in one record, with the cell's index (R40). -/
theorem State.push_addCycles (s : State) (v : Byte) (n : Nat) :
    (s.push v).addCycles n =
      { s with mem := s.mem.write (stackIndex s.sp) v, sp := s.sp - 1, cycles := s.cycles + n } := by
  rw [State.push_eq, word16_stackPage_eq_stackIndex]
  rfl

/-- A pull in one record, with the cell's index (R41). -/
theorem State.pull_eq_stackIndex (s : State) :
    s.pull = (s.mem.read (stackIndex (s.sp + 1)), { s with sp := s.sp + 1 }) := by
  rw [State.pull_eq, word16_stackPage_eq_stackIndex]

/-- Settles O30: PHA and PHP are a push, PLA and PLP a pull, at the cell's index in the stack page. -/
theorem stackInstructions : Obligations.StackInstructions := by
  intro s b pushed
  refine ⟨⟨rfl, ?_⟩, ⟨rfl, ?_⟩, ⟨rfl, ?_⟩, ⟨rfl, ?_⟩⟩
  · rw [exec_pha, State.push_addCycles]
  · rw [exec_php, State.push_addCycles, Flags.pushedByte_true]
  · rw [exec_pla, State.pull_eq_stackIndex]
    rfl
  · rw [exec_plp, State.pull_eq_stackIndex]
    rfl

end Sys2Proof.Machine
end

section
/-! SUPPORT. The flag computations of the adder and the rotates on numbers (spec/41_alu.md R260, R279, R280, R283). -/

namespace Sys2Proof.Machine

/-- Bit 7 of a byte is its sign (R13). -/
theorem getLsbD_seven (b : Byte) : b.getLsbD 7 = decide (128 ≤ b.toNat) :=
  b.msb_eq_getLsbD_last.symm.trans b.msb_eq_decide

/-- The adder overflows when its result has neither operand's sign, which is when the exact two's complement sum lies
outside the signed bytes (R260). -/
theorem signedOverflow_eq (a m : Byte) (c : Bool) :
    let r := BitVec.ofNat 8 (a.toNat + m.toNat + c.toNat)
    let signed := a.toInt + m.toInt + c.toNat
    ((a ^^^ r) &&& (m ^^^ r)).getLsbD 7 = decide (signed < -128 ∨ 127 < signed) := by
  intro r signed
  have ha := a.isLt
  have hm := m.isLt
  have hc := c.toNat_le
  rw [BitVec.getLsbD_and, BitVec.getLsbD_xor, BitVec.getLsbD_xor, Bool.eq_iff_iff]
  simp only [r, signed, getLsbD_seven, BitVec.toInt_eq_toNat_cond, BitVec.toNat_ofNat, Bool.and_eq_true, bne_iff_ne,
    ne_eq, decide_eq_decide, decide_eq_true_eq]
  split_ifs <;> omega

/-- The adder on numbers: the exact unsigned sum gives the result, C, Z and N, the exact signed sum V (R260). -/
theorem addCore_eq (a m : Byte) (c : Bool) (p : Flags) :
    let wide := a.toNat + m.toNat + c.toNat
    let signed := a.toInt + m.toInt + c.toNat
    addCore a m c p =
      (BitVec.ofNat 8 wide,
        { p with
          c := decide (255 < wide), v := decide (signed < -128 ∨ 127 < signed)
          z := decide (wide % 256 = 0), n := decide (128 ≤ wide % 256) }) := by
  intro wide signed
  have zero : (BitVec.ofNat 8 wide == 0) = decide (wide % 256 = 0) := by
    rw [Bool.eq_iff_iff, beq_iff_eq, decide_eq_true_iff, ← BitVec.toNat_inj, BitVec.toNat_ofNat]
    rfl
  have negative : (BitVec.ofNat 8 wide).getLsbD 7 = decide (128 ≤ wide % 256) := by
    rw [getLsbD_seven, BitVec.toNat_ofNat]
  rw [addCore, Flags.setNZ, signedOverflow_eq, zero, negative]

/-- The adder's result is the sum mod 256 (R260). -/
theorem addCore_result (a m : Byte) (c : Bool) (p : Flags) :
    (addCore a m c p).1 = a + m + BitVec.ofNat 8 c.toNat := by
  rw [addCore, BitVec.ofNat_add, BitVec.ofNat_add, BitVec.ofNat_toNat, BitVec.ofNat_toNat, BitVec.setWidth_eq,
    BitVec.setWidth_eq]

/-- What the adder gives for a value after its complement is off by the two carries less one (R283). -/
theorem addCore_addCore_complement (a v : Byte) (c c' : Bool) (p q : Flags) :
    (addCore (addCore a (~~~v) c p).1 v c' q).1 = a + (BitVec.ofNat 8 c.toNat + BitVec.ofNat 8 c'.toNat - 1) := by
  rw [addCore_result, addCore_result]
  bv_omega

/-- Rotating left puts the old carry in bit 0 (R279). -/
theorem rotateLeft_eq (v : Byte) (p : Flags) :
    rotateLeft v p = (v <<< 1 ||| (if p.c then 1 else 0), { p with c := v.getLsbD 7 }) := by
  rw [rotateLeft]
  cases p.c <;> rfl

/-- Rotating right puts the old carry in bit 7 (R280). -/
theorem rotateRight_eq (v : Byte) (p : Flags) :
    rotateRight v p = (v >>> 1 ||| (if p.c then 0x80 else 0), { p with c := v.getLsbD 0 }) := by
  rw [rotateRight]
  cases p.c <;> rfl

end Sys2Proof.Machine
end

section
/-! SUPPORT. The statement about the decimal flag: every operation but the pushes and pulls of P runs alike whatever
D holds (spec/41_alu.md R281). -/

namespace Sys2Proof.Machine

/-- The state with the decimal flag set to `b`. -/
def State.setDecimal (s : State) (b : Bool) : State := s.setP { s.p with d := b }

theorem State.memRead_setDecimal (s : State) (b : Bool) (a : Addr) :
    (s.setDecimal b).memRead a = ((s.memRead a).1, (s.memRead a).2.setDecimal b) := by
  rw [State.setDecimal, State.memRead_setP, State.setDecimal, State.memRead_p]

theorem State.memWrite_setDecimal (s : State) (b : Bool) (a : Addr) (v : Byte) :
    (s.setDecimal b).memWrite a v = (s.memWrite a v).setDecimal b := by
  rw [State.setDecimal, State.memWrite_setP, State.setDecimal, State.memWrite_p]

theorem State.operand_setDecimal (s : State) (b : Bool) (d : Descriptor) :
    (s.setDecimal b).operand d = ((s.operand d).1, (s.operand d).2.setDecimal b) := by
  rw [State.setDecimal, State.operand_setP, State.setDecimal, State.operand_p]

theorem State.store_setDecimal (s : State) (b : Bool) (d : Descriptor) (v : Byte) :
    (s.setDecimal b).store d v = (s.store d v).setDecimal b := by
  rw [State.setDecimal, State.store_setP, State.setDecimal, State.store_p]

theorem resolve_setDecimal (o : Operand) (s : State) (b : Bool) :
    resolve o (s.setDecimal b) = ((resolve o s).1, (resolve o s).2.setDecimal b) := by
  rw [State.setDecimal, resolve_setP, State.setDecimal, resolve_p]

theorem State.push_setDecimal (s : State) (b : Bool) (v : Byte) :
    (s.setDecimal b).push v = (s.push v).setDecimal b := by
  rw [State.push_eq, State.push_eq]
  rfl

theorem State.push16_setDecimal (s : State) (b : Bool) (w : Addr) :
    (s.setDecimal b).push16 w = (s.push16 w).setDecimal b := by
  rw [State.push16_eq, State.push16_eq]
  rfl

theorem State.pull_setDecimal (s : State) (b : Bool) :
    (s.setDecimal b).pull = (s.pull.1, s.pull.2.setDecimal b) :=
  (s.setSp (s.sp + 1)).memRead_setDecimal b _

theorem State.pull16_setDecimal (s : State) (b : Bool) :
    (s.setDecimal b).pull16 = (s.pull16.1, s.pull16.2.setDecimal b) := by
  rw [State.pull16_eq, State.pull16_eq]
  rfl

theorem State.shiftOperand_setDecimal (s : State) (b : Bool) (d : Descriptor) {f : Byte → Flags → Byte × Flags}
    (hf : ∀ v p, f v { p with d := b } = ((f v p).1, { (f v p).2 with d := b })) :
    (s.setDecimal b).shiftOperand d f = ((s.shiftOperand d f).1, (s.shiftOperand d f).2.setDecimal b) := by
  have shifted : f (s.operand d).1 ((s.operand d).2.setDecimal b).p = _ := hf _ _
  simp only [State.shiftOperand, State.operand_setDecimal, shifted]
  exact congrArg (Prod.mk _)
    (((s.operand d).2.setP (f (s.operand d).1 (s.operand d).2.p).2).store_setDecimal b d _)

theorem State.underUnstablePolicy_setDecimal (s t : State) (b : Bool) :
    (s.setDecimal b).underUnstablePolicy (t.setDecimal b) = (s.underUnstablePolicy t).setDecimal b := by
  rw [State.underUnstablePolicy, State.underUnstablePolicy, show (s.setDecimal b).params = s.params from rfl]
  cases s.params.unstableStore <;> rfl

theorem State.jam_setDecimal (s : State) (b : Bool) : (s.setDecimal b).jam = s.jam.setDecimal b := by
  rw [State.jam, State.jam, show (s.setDecimal b).params = s.params from rfl]
  cases s.params.jamPolicy <;> rfl

theorem branch_setDecimal (taken : Bool) (r : Resolved) (s : State) (b : Bool) :
    branch taken r (s.setDecimal b) = (branch taken r s).setDecimal b := by
  cases taken <;> rfl

/-- The mnemonics that push or pull P, or write D (R39). -/
def decimalUsers : List String := ["PHP", "BRK", "SED", "CLD", "PLP", "RTI"]

/-- The handlers of the other mnemonics run alike whatever D holds, and leave it. -/
theorem handler_setDecimal {mn : String} {h : Handler} {fp : Bool → List Aspect} (hm : Meaning mn h fp)
    (hn : mn ∉ decimalUsers) (r : Resolved) (s : State) (b : Bool) :
    h r (s.setDecimal b) = (h r s).setDecimal b := by
  have read := s.operand_setDecimal b r.desc
  cases hm with
  | php | brk | sed | cld | plp | rti => exact absurd (by decide) hn
  | adc | sbc | usbc | and | ora | eor | lda | ldx | ldy | cmp | cpx | cpy | bit | lax | las | lxa | ane | anc | alr
  | arr | sbx =>
    simp only [adc, sbc, usbc, Machine.and, ora, eor, lda, ldx, ldy, cmp, cpx, cpy, bit, lax, las, lxa, ane, anc, alr,
      arr, sbx, read]
    rfl
  | inc | dec | dcp | isc =>
    simp only [inc, dec, dcp, isc, read, State.store_setDecimal]
    rfl
  | asl | lsr | rol | ror | slo | rla | sre | rra =>
    simp only [asl, lsr, rol, ror, slo, rla, sre, rra]
    rw [s.shiftOperand_setDecimal b r.desc fun _ _ => rfl]
    rfl
  | sta | stx | sty | sax => exact s.store_setDecimal b r.desc _
  | pha => exact s.push_setDecimal b _
  | jsr => exact congrArg (State.setPc · _) (s.push16_setDecimal b _)
  | pla =>
    rw [pla, State.pull_setDecimal]
    rfl
  | rts =>
    rw [rts, State.pull16_setDecimal]
    rfl
  | sha | shx | shy =>
    simp only [sha, shx, shy, State.memWrite_setDecimal, State.underUnstablePolicy_setDecimal]
    rfl
  | tas =>
    have written := (s.setSp (s.a &&& s.x)).memWrite_setDecimal b
    exact (congrArg _ (written _ _)).trans (s.underUnstablePolicy_setDecimal _ b)
  | jam => exact s.jam_setDecimal b
  | bpl | bmi | bvc | bvs | bcc | bcs | bne | beq => exact branch_setDecimal _ r s b
  | inx | iny | dex | dey | tax | tay | txa | tya | tsx | txs | nop | clc | sec | cli | sei | clv | jmp => rfl

/-- Settles O15: neither the resolver nor the handler looks at the decimal flag. -/
theorem decimalFlagIsInert : Obligations.DecimalFlagIsInert := by
  intro i s t b hn he
  obtain ⟨h, fp, base, hm, -, run⟩ := exec_eq_runInstr i
  rw [run, runInstr_next] at he
  injection he with he
  subst he
  have resolved : resolve i.operand { s with p := { s.p with d := b } } = _ := resolve_setDecimal i.operand s b
  rw [run, runInstr_next, resolved, handler_setDecimal hm hn]
  rfl

end Sys2Proof.Machine
end

section
/-! SUPPORT. The statements about the ALU instructions (spec/41_alu.md R260–R283), settled from the handlers in the
frame of R150. -/

namespace Sys2Proof.Machine

theorem exec_adcImm_a (v : Byte) (s : State) :
    ∃ t, exec (.adcImm v) s = .next t ∧ t.a = (addCore s.a v s.p.c s.p).1 := ⟨_, rfl, rfl⟩

theorem exec_sbcImm_a (v : Byte) (s : State) :
    ∃ t, exec (.sbcImm v) s = .next t ∧ t.a = (addCore s.a (~~~v) s.p.c s.p).1 := ⟨_, rfl, rfl⟩

/-- Settles O25: after both, A is off by the two carries less one, which is 0 for opposite carries and 1 or -1 for the
same carry. -/
theorem subtractThenAddRestores : Obligations.SubtractThenAddRestores := by
  intro s v
  obtain ⟨t, subtracted, ta⟩ := exec_sbcImm_a v s
  have added (c : Bool) : ∃ u, exec (.adcImm v) { t with p := { t.p with c := c } } = .next u ∧
      u.a = s.a + (BitVec.ofNat 8 s.p.c.toNat + BitVec.ofNat 8 c.toNat - 1) := by
    obtain ⟨u, run, ua⟩ := exec_adcImm_a v { t with p := { t.p with c := c } }
    refine ⟨u, run, ?_⟩
    rw [ua, ta, addCore_addCore_complement]
  have opposite : ∀ c : Bool, BitVec.ofNat 8 c.toNat + BitVec.ofNat 8 (!c).toNat - 1 = 0 := by decide
  have same : ∀ c : Bool, BitVec.ofNat 8 c.toNat + BitVec.ofNat 8 c.toNat - 1 = (if c then 2 else 0) - 1 := by decide
  have nonzero : ∀ c : Bool, (if c then 2 else 0) - 1#8 ≠ 0 := by decide
  obtain ⟨u, run, ua⟩ := added (!s.p.c)
  obtain ⟨u', run', ua'⟩ := added s.p.c
  rw [opposite, add_zero] at ua
  rw [same] at ua'
  refine ⟨t, subtracted, ⟨u, run, ua⟩, u', run', ?_, ?_⟩
  · rw [ua', add_sub_left_comm, add_comm]
  · rw [ua']
    exact fun h => nonzero s.p.c (add_eq_left.mp h)

/-- Resolving and reading an operand leave the registers, the flags and the cycles (R17, R160). -/
theorem operand_resolve_keeps {o : Operand} {s : State} {m : Byte × State}
    (hm : m = (resolve o s).2.operand (resolve o s).1.desc) :
    m.2.a = s.a ∧ m.2.x = s.x ∧ m.2.y = s.y ∧ m.2.p = s.p ∧ m.2.cycles = s.cycles := by
  simp [hm]

/-- Settles O31: the handler reads the operand, which leaves A, the flags and the cycles, and adds it or its
complement. -/
theorem addAndSubtract : Obligations.AddAndSubtract := by
  intro i s r m sum
  obtain ⟨a, -, -, flags, cycles⟩ := operand_resolve_keeps (m := m) rfl
  have added : ∀ q penalized,
      (m.2.addToA q).addCycles (i.costWith penalized r.1.cross) = sum q penalized := fun q penalized => by
    rw [State.addToA_eq, addCore_eq, State.addCycles, a, flags]
    simp only [cycles, sum]
  simp only [← added]
  exact ⟨(exec_of_mnemonic .adc · s), (exec_of_mnemonic .sbc · s), (exec_of_mnemonic .usbc · s)⟩

/-- Settles O32: the handler reads the operand, which leaves A, the flags and the cycles, and sets A, N and Z. -/
theorem logicWithAccumulator : Obligations.LogicWithAccumulator := by
  intro i s r m
  obtain ⟨a, -, -, flags, cycles⟩ := operand_resolve_keeps (m := m) rfl
  rw [← a, ← flags, ← cycles]
  exact ⟨(exec_of_mnemonic .and · s), (exec_of_mnemonic .ora · s), (exec_of_mnemonic .eor · s)⟩

/-- Settles O33: the handler reads the operand, which leaves the registers, and writes flags only. -/
theorem comparesAndBitTest : Obligations.ComparesAndBitTest := by
  intro i s r m
  obtain ⟨a, x, y, flags, cycles⟩ := operand_resolve_keeps (m := m) rfl
  rw [← a, ← x, ← y, ← flags, ← cycles]
  exact ⟨(exec_of_mnemonic .cmp · s), (exec_of_mnemonic .cpx · s), (exec_of_mnemonic .cpy · s),
    (exec_of_mnemonic .bit · s)⟩

/-- The handlers that read their operand, store a result of it there and set N and Z: the steps of memory and the shifts
and rotates (R271, R272, R277–R280). -/
def modify (f : Byte → Flags → Byte × Flags) : Handler := fun r s =>
  (s.shiftOperand r.desc f).2.setNZ (s.shiftOperand r.desc f).1

theorem modify_cycles (f : Byte → Flags → Byte × Flags) (r : Resolved) (s : State) :
    (modify f r s).cycles = s.cycles := by
  simp [modify, State.shiftOperand]

/-- On the accumulator reference `modify` changes A and the flags, and makes no bus access (R162). -/
theorem modify_accumulator (f : Byte → Flags → Byte × Flags) {o : Operand} (ho : o.mode = .accumulator) (s : State) :
    modify f (resolve o s).1 (resolve o s).2 =
      { s with a := (f s.a s.p).1, p := (f s.a s.p).2.setNZ (f s.a s.p).1 } := by
  cases o with
  | accumulator => rfl
  | _ => cases ho

/-- On an address `modify` makes one bus read there and then one bus write of the result. -/
theorem modify_address (f : Byte → Flags → Byte × Flags) {o : Operand} (ho : givesAddress o.mode = true) (s : State) :
    ∃ a, (resolve o s).1.desc = .addr a ∧
      let m := (resolve o s).2.memRead a
      modify f (resolve o s).1 (resolve o s).2 =
        { m.2.memWrite a (f m.1 s.p).1 with p := (f m.1 s.p).2.setNZ (f m.1 s.p).1 } := by
  obtain ⟨a, ha⟩ := resolve_desc_of_givesAddress ho s
  refine ⟨a, ha, ?_⟩
  simp only [modify, State.shiftOperand, ha, State.operand_addr, State.store_addr, State.memWrite_setP,
    State.memRead_p, resolve_p]
  rfl

section

variable {mn : String} {f : Byte → Flags → Byte × Flags} {fp : Bool → List Aspect} {forms : List (Byte × Mode)}
  {i : Instr}

/-- An instruction that runs `modify` adds its row's count and no page penalty (R150). -/
theorem exec_of_modify (hm : Meaning mn (modify f) fp) (hi : i.row.mnemonic = mn) (s : State)
    (rows : RowsOf mn forms []) (notJam : mn ≠ "JAM") :
    i.form ∈ forms ∧
      exec i s = .next
        { modify f (resolve i.operand s).1 (resolve i.operand s).2 with cycles := s.cycles + i.row.cycles } := by
  obtain ⟨form, run⟩ := exec_of_mnemonic hm hi s rows notJam
  refine ⟨form, ?_⟩
  rw [run, costWith_nil, State.addCycles, modify_cycles, resolve_cycles]

/-- With address forms only, an instruction that runs `modify` makes one bus read and one bus write of the result
(R271, R272). -/
theorem exec_of_modify_memory (hm : Meaning mn (modify f) fp) (hi : i.row.mnemonic = mn) (s : State)
    (rows : RowsOf mn forms [] := by decide) (addresses : ∀ g ∈ forms, givesAddress g.2 = true := by decide)
    (notJam : mn ≠ "JAM" := by decide) :
    i.form ∈ forms ∧ ∃ a, (resolve i.operand s).1.desc = .addr a ∧
      let m := (resolve i.operand s).2.memRead a
      exec i s = .next
        { m.2.memWrite a (f m.1 s.p).1 with
          p := (f m.1 s.p).2.setNZ (f m.1 s.p).1, cycles := s.cycles + i.row.cycles } := by
  obtain ⟨form, run⟩ := exec_of_modify hm hi s rows notJam
  obtain ⟨a, ha, memory⟩ := modify_address f (addresses _ form) s
  exact ⟨form, a, ha, by rw [run, memory]⟩

/-- A shift or rotate, whose result is `q` and whose new carry is `out`, on A or on memory (R277–R280). -/
theorem exec_of_shift {q : Byte → Byte} {out : Byte → Bool} {s : State} (hm : Meaning mn (modify f) fp)
    (hf : ∀ v, f v s.p = (q v, { s.p with c := out v })) (hi : i.row.mnemonic = mn)
    (rows : RowsOf mn forms [] := by decide)
    (operands : ∀ g ∈ forms, g.2 ≠ .accumulator → givesAddress g.2 = true := by decide)
    (notJam : mn ≠ "JAM" := by decide) :
    let flags := fun v => { s.p with c := out v, z := q v == 0, n := (q v).getLsbD 7 }
    i.form ∈ forms ∧
      (i.operand.mode = .accumulator →
        exec i s = .next { s with a := q s.a, p := flags s.a, cycles := s.cycles + i.row.cycles }) ∧
      (i.operand.mode ≠ .accumulator → ∃ a, (resolve i.operand s).1.desc = .addr a ∧
        let m := (resolve i.operand s).2.memRead a
        exec i s = .next
          { m.2.memWrite a (q m.1) with p := flags m.1, cycles := s.cycles + i.row.cycles }) := by
  obtain ⟨form, run⟩ := exec_of_modify hm hi s rows notJam
  refine ⟨form, fun accumulator => ?_, fun memory => ?_⟩
  · rw [run, modify_accumulator f accumulator, hf]
    rfl
  · obtain ⟨a, ha, modified⟩ := modify_address f (operands _ form memory) s
    refine ⟨a, ha, ?_⟩
    rw [run, modified, hf]
    rfl

end

/-- Settles O34: each handler steps the value in memory and writes no flag but N and Z. -/
theorem incrementAndDecrementMemory : Obligations.IncrementAndDecrementMemory := fun _ s =>
  ⟨(exec_of_modify_memory (f := fun v p => (v + 1, p)) .inc · s),
    (exec_of_modify_memory (f := fun v p => (v - 1, p)) .dec · s)⟩

/-- Settles O35: the shifts are as the statement has them by definition, the rotates by where the old carry goes. -/
theorem shiftsAndRotates : Obligations.ShiftsAndRotates := fun _ s =>
  ⟨exec_of_shift (f := shiftLeft) .asl fun _ => rfl, exec_of_shift (f := shiftRight) .lsr fun _ => rfl,
    exec_of_shift .rol (rotateLeft_eq · s.p), exec_of_shift .ror (rotateRight_eq · s.p)⟩

end Sys2Proof.Machine
end

section
/-! SUPPORT. What the stack gives back (spec/10_state.md R40–R42): a pulled word is the word pushed, and returning from an
interrupt undoes taking it, whatever ran between as long as it left memory and SP alone. -/

namespace Sys2Proof.Machine

/-- SP designates a cell of its own for each of its values (R34). -/
theorem stackIndex_inj {b c : Byte} : stackIndex b = stackIndex c ↔ b = c :=
  Nat.add_left_cancel_iff.trans BitVec.toNat_inj

/-- A write to one stack cell leaves the others alone. -/
theorem Mem.read_write_otherStackCell (m : Mem) {b c : Byte} (v : Byte) (h : c ≠ b) :
    (m.write (stackIndex b) v).read (stackIndex c) = m.read (stackIndex c) :=
  Mem.read_write_other m v (mt stackIndex_inj.mp h)

/-- Pulling a pushed word gives it back and restores SP (R42). -/
theorem State.pull16_of_push16 {s t : State} {w : Addr} (mem : t.mem = (s.push16 w).mem)
    (sp : t.sp = (s.push16 w).sp) : t.pull16 = (w, { t with sp := s.sp }) := by
  have top : t.sp = s.sp - 2 := by rw [sp, State.push16_eq]
  have first : t.sp + 1 = s.sp - 1 := by bv_omega
  have second : t.sp + 2 = s.sp := by bv_omega
  have distinct : s.sp ≠ s.sp - 1 := by bv_omega
  rw [State.pull16_eq, first, second, mem, State.push16_eq]
  simp only [word16_stackPage_eq_stackIndex, Mem.read_write_same, Mem.read_write_otherStackCell _ _ distinct,
    word16_hi_lo]

/-- Taking an interrupt in one record, with the stack cells' indices (R500). -/
theorem State.enterInterrupt_eq_stackIndex (s : State) (ret : Addr) (b4 : Bool) (v : Addr)
    (hv : v = nmiVector ∨ v = irqVector) :
    s.enterInterrupt ret b4 v =
      { s with
        mem :=
          ((s.mem.write (stackIndex s.sp) (hi ret)).write (stackIndex (s.sp - 1)) (lo ret)).write
            (stackIndex (s.sp - 2)) (s.p.pushedByte b4)
        sp := s.sp - 3, p := { s.p with i := true }
        pc := word16 (s.mem.read (v.toNat + 1)) (s.mem.read v.toNat) } := by
  simp only [State.enterInterrupt_eq s ret b4 v hv, word16_stackPage_eq_stackIndex]

/-- Returning from an interrupt restores the flags and SP from before it was taken, and goes to the return address
(R334, R506). -/
theorem State.returnFromInterrupt_of_enterInterrupt {s t : State} {ret : Addr} {b4 : Bool} {v : Addr}
    (hv : v = nmiVector ∨ v = irqVector) (mem : t.mem = (s.enterInterrupt ret b4 v).mem)
    (sp : t.sp = (s.enterInterrupt ret b4 v).sp) :
    t.returnFromInterrupt = { t with p := s.p, pc := ret, sp := s.sp } := by
  have entered := s.enterInterrupt_eq_stackIndex ret b4 v hv
  have top : t.sp = s.sp - 3 := by rw [sp, entered]
  have first : t.sp + 1 = s.sp - 2 := by bv_omega
  have second : t.sp + 2 = s.sp - 1 := by bv_omega
  have third : t.sp + 3 = s.sp := by bv_omega
  have h01 : s.sp ≠ s.sp - 1 := by bv_omega
  have h02 : s.sp ≠ s.sp - 2 := by bv_omega
  have h12 : s.sp - 1 ≠ s.sp - 2 := by bv_omega
  rw [State.returnFromInterrupt_eq, first, second, third, mem, entered]
  simp only [word16_stackPage_eq_stackIndex, Mem.read_write_same, Mem.read_write_otherStackCell _ _ h01,
    Mem.read_write_otherStackCell _ _ h02, Mem.read_write_otherStackCell _ _ h12, Flags.ofPulledByte_pushedByte,
    word16_hi_lo]

end Sys2Proof.Machine
end

section
/-! SUPPORT. The statements about control transfers and flag operations (spec/42_control_flag.md R330–R358, R414–R416),
settled from the stack's laws and the handlers in the frame of R150. -/

namespace Sys2Proof.Machine

theorem exec_jsr (w : Addr) (s : State) :
    exec (.jsr w) s = .next (((s.push16 (s.pc - 1)).setPc w).addCycles 6) := rfl

theorem exec_rts (s : State) : exec .rts s = .next ((s.pull16.2.setPc (s.pull16.1 + 1)).addCycles 6) := rfl

/-- Settles O21: RTI undoes taking the interrupt, and the cycles and the cleared request of an entry touch neither memory
nor SP. -/
theorem interruptReturnRestores : Obligations.InterruptReturnRestores := by
  intro s
  have nmi : s.nmiEntry.returnFromInterrupt = { s.nmiEntry with p := s.p, pc := s.pc, sp := s.sp } :=
    State.returnFromInterrupt_of_enterInterrupt (s := { s with nmiPending := false }) (.inl rfl) rfl rfl
  have irq : s.irqEntry.returnFromInterrupt = { s.irqEntry with p := s.p, pc := s.pc, sp := s.sp } :=
    State.returnFromInterrupt_of_enterInterrupt (.inr rfl) rfl rfl
  refine ⟨⟨_, exec_rti _, ?_⟩, ⟨_, exec_rti _, ?_⟩, ?_⟩
  · rw [nmi, State.nmiEntry, State.enterInterrupt_eq_stackIndex _ _ _ _ (.inl rfl)]
    exact ⟨rfl, rfl, rfl, rfl, rfl, rfl⟩
  · rw [irq, State.irqEntry, State.enterInterrupt_eq_stackIndex _ _ _ _ (.inr rfl)]
    exact ⟨rfl, rfl, rfl, rfl, rfl, rfl⟩
  · rw [State.irqEntry, State.enterInterrupt_eq_stackIndex _ _ _ _ (.inr rfl)]
    rfl

/-- Settles O23: RTS pulls the word JSR pushed, since going to the target touches neither memory nor SP. -/
theorem jsrThenRtsReturns : Obligations.JsrThenRtsReturns := by
  refine ⟨fun s w => ⟨_, _, exec_jsr w s, rfl, exec_rts _, ?_⟩, fun s w => ?_⟩
  · have pulled : (((s.push16 (s.pc - 1)).setPc w).addCycles 6).pull16 = _ := State.pull16_of_push16 (s := s) rfl rfl
    rw [pulled, State.push16_eq]
    exact ⟨BitVec.sub_add_cancel s.pc 1, rfl, rfl, rfl, rfl, rfl⟩
  · rw [State.pull16_of_push16 rfl rfl]
    exact ⟨rfl, rfl⟩

/-- Settles O26: BRK takes the interrupt with return address PC + 1 and bit 4 set, and `stop` ends both loops. -/
theorem brkTakesTheTrapAndStops : Obligations.BrkTakesTheTrapAndStops := by
  intro s
  refine ⟨rfl, ?_, fun t ht => ?_⟩
  · rw [exec_brk, State.enterInterrupt_eq_stackIndex _ _ _ _ (.inr rfl), Flags.pushedByte_true]
    rfl
  · cases ht
    exact ⟨Bool.and_false _, Bool.and_false _⟩

/-- Settles O36: the jumps are their handlers by definition; the calls and returns are the stack's records at the cells'
indices. -/
theorem jumpsCallsAndReturns : Obligations.JumpsCallsAndReturns := by
  intro s t
  refine ⟨rfl, rfl, rfl, rfl, rfl, rfl, ?_, ?_, ?_, ?_⟩
  · have cycles : ((s.memRead t).2.memRead (word16 (hi t) (lo t + 1))).2.cycles = s.cycles := by
      rw [State.memRead_cycles, State.memRead_cycles]
    rw [← cycles]
    rfl
  · rw [exec_jsr, State.push16_eq, word16_stackPage_eq_stackIndex, word16_stackPage_eq_stackIndex]
    rfl
  · rw [exec_rts, State.pull16_eq, word16_stackPage_eq_stackIndex, word16_stackPage_eq_stackIndex]
    rfl
  · rw [exec_rti, State.returnFromInterrupt_eq, word16_stackPage_eq_stackIndex, word16_stackPage_eq_stackIndex,
      word16_stackPage_eq_stackIndex]
    rfl

/-- A displacement on numbers: d, or d - 256 from $80 on (R335). -/
theorem add_sext16 (pc : Addr) (d : Byte) :
    pc + sext16 d = BitVec.ofInt 16 (pc.toNat + if d.toNat < 128 then (d.toNat : Int) else d.toNat - 256) := by
  have signed : d.toInt = if d.toNat < 128 then (d.toNat : Int) else d.toNat - 256 := by
    rw [BitVec.toInt_eq_toNat_cond]
    split_ifs <;> omega
  rw [← signed, BitVec.ofInt_add, BitVec.ofInt_natCast, BitVec.ofNat_toNat, BitVec.setWidth_eq]
  rfl

theorem branchExtra_eq (policy : BranchPenalty) (after target : Addr) :
    branchExtra policy after target = if policy = .hardware then if hi target = hi after then 1 else 2 else 0 := by
  cases policy <;> rfl

/-- A branch in the frame of its row (R335, R344). -/
theorem runInstr_branch (taken : Bool) (d : Byte) (s : State) :
    runInstr (.relative d) 2 false (branch taken) s =
      .next (if taken then
        { s with
          pc := s.pc + sext16 d
          cycles := s.cycles + 2 + branchExtra s.params.branchPenalty s.pc (s.pc + sext16 d) }
        else { s with cycles := s.cycles + 2 }) := by
  have displacement : lo (zext16 d) = d := by
    apply BitVec.eq_of_toNat_eq
    rw [lo_toNat, zext16_toNat, Nat.mod_eq_of_lt d.isLt]
  cases taken
  · rfl
  · rw [runInstr_next, branch_eq]
    simp [resolve, Descriptor.value, displacement, State.addCycles, Nat.add_right_comm]

/-- Settles O37: each branch is the one operation on its own flag. -/
theorem branches : Obligations.Branches := by
  intro s d target extra go
  have run : ∀ taken, runInstr (.relative d) 2 false (branch taken) s = .next (go taken) := by
    intro taken
    rw [runInstr_branch, branchExtra_eq, add_sext16]
    rfl
  exact ⟨⟨rfl, run (!s.p.n)⟩, ⟨rfl, run s.p.n⟩, ⟨rfl, run (!s.p.v)⟩, ⟨rfl, run s.p.v⟩, ⟨rfl, run (!s.p.c)⟩,
    ⟨rfl, run s.p.c⟩, ⟨rfl, run (!s.p.z)⟩, ⟨rfl, run s.p.z⟩⟩

/-- No form of NOP resolves a pointer (R358, R414–R416). -/
theorem mode_of_nop (op : Byte) (h : (opRow op).mnemonic = "NOP") : (opRow op).mode ≠ .indirect := by
  revert op
  decide

/-- Settles O38: each flag operation writes its flag in the frame of its row, by definition; NOP's handler does nothing,
and resolving its operand reads nothing. -/
theorem flagOperationsAndNops : Obligations.FlagOperationsAndNops := by
  refine ⟨fun _ => ⟨⟨rfl, rfl⟩, ⟨rfl, rfl⟩, ⟨rfl, rfl⟩, ⟨rfl, rfl⟩, ⟨rfl, rfl⟩, ⟨rfl, rfl⟩, ⟨rfl, rfl⟩⟩,
    fun i s hi => ?_⟩
  have unread : (resolve i.operand s).2 = s :=
    resolve_state i.operand s (operand_mode i ▸ mode_of_nop i.opcode hi)
  have idle : ∀ n, { s with cycles := s.cycles + n } =
      (nop (resolve i.operand s).1 (resolve i.operand s).2).addCycles n := fun n => by
    rw [nop, unread]
    rfl
  rw [idle]
  exact exec_of_mnemonic .nop hi s

end Sys2Proof.Machine
end

section
/-! SUPPORT. The statements about the illegal opcodes (spec/43_illegal.md R401–R440), settled from the handlers in the
frame of R150. -/

namespace Sys2Proof.Machine

/-- The illegal read-modify-writes: the value read goes through `f` and is stored, then `second` gives A and the flags
from the stored value, A and the flags (R401–R404, R407, R408). -/
def modifyThen (f : Byte → Flags → Byte × Flags) (second : Byte → Byte → Flags → Byte × Flags) : Handler := fun r s =>
  let q := s.shiftOperand r.desc f
  (q.2.setA (second q.1 q.2.a q.2.p).1).setP (second q.1 q.2.a q.2.p).2

/-- The second operation of SLO, RLA and SRE: `op` of A and the value goes to A, with N and Z (R401–R403). -/
def logicIntoA (op : Byte → Byte → Byte) (q a : Byte) (p : Flags) : Byte × Flags := (op a q, p.setNZ (op a q))

/-- The second operation of RRA: the value is added to A with the carry the rotate left (R404). -/
def addIntoA (q a : Byte) (p : Flags) : Byte × Flags := addCore a q p.c p

/-- The second operation of DCP: A is compared with the value (R407). -/
def compareWithA (q a : Byte) (p : Flags) : Byte × Flags := (a, compareCore a q p)

/-- The second operation of ISC: the value is subtracted from A with borrow (R408). -/
def subtractFromA (q a : Byte) (p : Flags) : Byte × Flags := addCore a (~~~q) p.c p

/-- On an address `modifyThen` makes one bus read there and one bus write of the result, which leave A to the second
operation. -/
theorem modifyThen_address (f : Byte → Flags → Byte × Flags) (second : Byte → Byte → Flags → Byte × Flags) {o : Operand}
    (ho : givesAddress o.mode = true) (s : State) :
    ∃ a, (resolve o s).1.desc = .addr a ∧
      let m := (resolve o s).2.memRead a
      let q := f m.1 s.p
      modifyThen f second (resolve o s).1 (resolve o s).2 =
        { m.2.memWrite a q.1 with a := (second q.1 s.a q.2).1, p := (second q.1 s.a q.2).2 } := by
  obtain ⟨a, ha⟩ := resolve_desc_of_givesAddress ho s
  refine ⟨a, ha, ?_⟩
  simp only [modifyThen, State.shiftOperand, ha, State.operand_addr, State.store_addr, State.memWrite_setP,
    State.memRead_p, resolve_p, State.setP_a, State.memWrite_a, State.memRead_a, resolve_a]
  rfl

/-- An illegal read-modify-write, whose stored value is `q` with the flags `flags` after it, and which leaves A and the
flags as `second` says, adds its row's count and no page penalty (R150, R400). -/
theorem exec_of_modifyThen {mn : String} {f : Byte → Flags → Byte × Flags}
    {second : Byte → Byte → Flags → Byte × Flags} {fp : Bool → List Aspect} {forms : List (Byte × Mode)} {i : Instr}
    {s : State} {q : Byte → Byte} {flags : Byte → Flags} (hm : Meaning mn (modifyThen f second) fp)
    (hf : ∀ v, f v s.p = (q v, flags v)) (hi : i.row.mnemonic = mn) (rows : RowsOf mn forms [] := by decide)
    (addresses : ∀ g ∈ forms, givesAddress g.2 = true := by decide) (notJam : mn ≠ "JAM" := by decide) :
    i.form ∈ forms ∧ ∃ a, (resolve i.operand s).1.desc = .addr a ∧
      let m := (resolve i.operand s).2.memRead a
      let after := second (q m.1) s.a (flags m.1)
      exec i s = .next
        { m.2.memWrite a (q m.1) with a := after.1, p := after.2, cycles := s.cycles + i.row.cycles } := by
  obtain ⟨form, run⟩ := exec_of_mnemonic hm hi s rows notJam
  obtain ⟨a, ha, modified⟩ := modifyThen_address f second (addresses _ form) s
  refine ⟨form, a, ha, ?_⟩
  rw [run, modified, costWith_nil, hf, State.addCycles, State.memWrite_cycles, State.memRead_cycles, resolve_cycles]

/-- Settles O39: each handler modifies memory and then runs its second operation; DCP's leaves A alone. -/
theorem illegalReadModifyWrite : Obligations.IllegalReadModifyWrite := by
  intro i s r
  have accumulator : ∀ a v, ((r.2.memRead a).2.memWrite a v).a = s.a := fun a v => by
    rw [State.memWrite_a, State.memRead_a, resolve_a]
  refine ⟨exec_of_modifyThen (f := shiftLeft) (second := logicIntoA (· ||| ·)) .slo fun _ => rfl,
    exec_of_modifyThen (second := logicIntoA (· &&& ·)) .rla (rotateLeft_eq · s.p),
    exec_of_modifyThen (f := shiftRight) (second := logicIntoA (· ^^^ ·)) .sre fun _ => rfl,
    exec_of_modifyThen (second := addIntoA) .rra (rotateRight_eq · s.p), fun dcp => And.imp_right ?_ <|
    exec_of_modifyThen (f := fun v p => (v - 1, p)) (second := compareWithA) (s := s) .dcp (fun _ => rfl) dcp,
    exec_of_modifyThen (f := fun v p => (v + 1, p)) (second := subtractFromA) .isc fun _ => rfl⟩
  rintro ⟨a, ha, run⟩
  refine ⟨a, ha, ?_⟩
  rw [run, ← accumulator a ((r.2.memRead a).1 - 1)]
  rfl

/-- Settles O40: SAX stores A & X, which resolving leaves alone; LAX and LAS read the operand, which leaves SP, the
flags and the cycles. -/
theorem combinedLoadsAndStores : Obligations.CombinedLoadsAndStores := by
  intro i s r m
  refine ⟨(exec_of_register_store (reg := fun s => s.a &&& s.x) .sax (fun o s => by rw [resolve_a, resolve_x]) · s), ?_⟩
  obtain ⟨-, -, -, flags, cycles⟩ := operand_resolve_keeps (m := m) rfl
  have sp : m.2.sp = s.sp := by rw [State.operand_sp, resolve_sp]
  rw [← sp, ← flags, ← cycles]
  exact ⟨(exec_of_mnemonic .lax · s), (exec_of_mnemonic .las · s)⟩

/-- A byte shifted right has N clear (R410). -/
theorem Flags.setNZ_shiftRight (p : Flags) (v : Byte) :
    p.setNZ (v >>> 1) = { p with z := v >>> 1 == 0, n := false } := by
  have top : (v >>> 1).getLsbD 7 = false := by rw [BitVec.getLsbD_ushiftRight, BitVec.getLsbD_of_ge v 8 le_rfl]
  rw [Flags.setNZ, top]

/-- Settles O41: each handler in the frame of its row, by definition, with N clear after ALR's shift and the old carry
in bit 7 after ARR's rotate. -/
theorem combinedImmediateOperations : Obligations.CombinedImmediateOperations := by
  intro s k t rotated ane lxa
  have shifted : ({ s.p with c := t.getLsbD 0 } : Flags).setNZ (t >>> 1) = _ := Flags.setNZ_shiftRight _ t
  have turned : (rotateRight t s.p).1 = rotated := by rw [rotateRight_eq]
  refine ⟨⟨rfl, rfl⟩, ⟨rfl, rfl⟩, ⟨rfl, ?_⟩, ⟨rfl, ?_⟩, ⟨rfl, rfl⟩, ⟨rfl, rfl⟩, ⟨rfl, rfl⟩⟩
  · rw [← shifted]
    rfl
  · rw [← turned]
    rfl

/-- The unstable stores: the register `reg` with the page byte goes to the address of R430; `before` says what the
instruction does with the register first, which only TAS does (R430–R434). -/
def unstableStore (reg : State → Byte) (before : Byte → State → State) : Handler := fun r s =>
  let val := reg s &&& r.basePageNext
  s.underUnstablePolicy ((before (reg s) s).memWrite (r.unstableAddr val) val)

theorem State.underUnstablePolicy_common {s : State} (t : State) (h : s.params.unstableStore = .common) :
    s.underUnstablePolicy t = t := by
  rw [State.underUnstablePolicy, h]

theorem State.underUnstablePolicy_refuse {s : State} (t : State) (h : s.params.unstableStore = .refuse) :
    s.underUnstablePolicy t = { s with refused := true } := by
  rw [State.underUnstablePolicy, h]

/-- An unstable store makes one bus write under COMMON, and sets `refused` only under REFUSE (R430). -/
theorem exec_of_unstableStore {mn : String} {reg : State → Byte} {before : Byte → State → State}
    {fp : Bool → List Aspect} {forms : List (Byte × Mode)} {i : Instr} (hm : Meaning mn (unstableStore reg before) fp)
    (hreg : ∀ o s, reg (resolve o s).2 = reg s) (hbefore : ∀ v s, (before v s).cycles = s.cycles)
    (named : i.row.mnemonic = mn) (s : State) (rows : RowsOf mn forms [] := by decide)
    (addresses : ∀ f ∈ forms, givesAddress f.2 = true := by decide) (notJam : mn ≠ "JAM" := by decide) :
    i.form ∈ forms ∧ ∃ a, (resolve i.operand s).1.desc = .addr a ∧
      let r := resolve i.operand s
      let val := reg s &&& (hi a + 1 - if r.1.cross then 1 else 0)
      let target := if r.1.cross then word16 val (lo a) else a
      (s.params.unstableStore = .common →
        exec i s = .next { (before (reg s) r.2).memWrite target val with cycles := s.cycles + i.row.cycles }) ∧
      (s.params.unstableStore = .refuse →
        ∃ t, exec i s = .next t ∧ t = { r.2 with refused := true, cycles := t.cycles }) := by
  obtain ⟨form, run⟩ := exec_of_mnemonic hm named s rows notJam
  obtain ⟨a, ha⟩ := resolve_desc_of_givesAddress (addresses _ form) s
  have policy : (resolve i.operand s).2.params = s.params := resolve_params i.operand s
  rw [costWith_nil, unstableStore, hreg] at run
  refine ⟨form, a, ha, fun common => ?_, fun refuse => ?_⟩
  · rw [run, State.underUnstablePolicy_common _ (policy ▸ common), State.addCycles, State.memWrite_cycles, hbefore,
      resolve_cycles, Resolved.basePageNext, Resolved.unstableAddr, ha]
    rfl
  · rw [run, State.underUnstablePolicy_refuse _ (policy ▸ refuse)]
    exact ⟨_, rfl, rfl⟩

/-- A dispatch of a jammed or refused core only lets time pass (R440, R430, R520). -/
theorem step_of_halted {s : State} (halted : s.jammed = true ∨ s.refused = true) (running : s.stop = false)
    (due : s.cycles < s.master) : step s = .next { s with cycles := s.master } := by
  have cpuDue : s.cpuDue = true := by simp [State.cpuDue, due, running]
  rw [step, advance, if_pos cpuDue, cpuDispatch, if_pos (Bool.or_eq_true_iff.mpr halted)]

/-- Settles O42: each of the four is the one operation on its own register; TAS writes its register to SP first. -/
theorem unstableStores : Obligations.UnstableStores :=
  have andX : ∀ o s, (resolve o s).2.a &&& (resolve o s).2.x = s.a &&& s.x := fun o s => by rw [resolve_a, resolve_x]
  ⟨fun _ s =>
    ⟨(exec_of_unstableStore (reg := fun s => s.a &&& s.x) (before := fun _ s => s) .sha andX (fun _ _ => rfl) · s),
      (exec_of_unstableStore (reg := State.x) (before := fun _ s => s) .shx resolve_x (fun _ _ => rfl) · s),
      (exec_of_unstableStore (reg := State.y) (before := fun _ s => s) .shy resolve_y (fun _ _ => rfl) · s),
      (exec_of_unstableStore (reg := fun s => s.a &&& s.x) (before := fun v s => s.setSp v) .tas andX
        (fun _ _ => rfl) · s)⟩,
    fun _ refused => step_of_halted (.inr refused)⟩

/-- Every JAM runs its one operation, and its row's count is not added beside it (R440, R175). -/
theorem exec_of_jam {i : Instr} (hi : i.row.mnemonic = "JAM") (s : State) : exec i s = .next s.jam := by
  rw [Instr.row] at hi
  cases i with
  | jam02 | jam12 | jam22 | jam32 | jam42 | jam52 | jam62 | jam72 | jam92 | jamB2 | jamD2 | jamF2 => rfl
  | _ =>
    simp only [Instr.opcode] at hi
    exact absurd hi (by decide)

/-- An instruction has one of its mnemonic's forms (R175). -/
theorem form_of_mnemonic {mn : String} {forms : List (Byte × Mode)} {i : Instr} (hi : i.row.mnemonic = mn)
    (rows : RowsOf mn forms [] := by decide) : i.form ∈ forms := by
  rw [Instr.form, operand_mode]
  exact (rows i.opcode hi).1

/-- Settles O43: JAM's one operation under each policy; a jammed core's dispatch passes the time, and no step clears the
mark. -/
theorem jamHaltsOrDoesNothing : Obligations.JamHaltsOrDoesNothing := by
  refine ⟨fun i s hi => ?instr, fun s jammed => ⟨step_of_halted (.inl jammed), fun t ht => ?mark⟩⟩
  case mark =>
    obtain ⟨-, kept, -⟩ := step_marks ht
    exact kept jammed
  rw [exec_of_jam hi, State.jam]
  refine ⟨form_of_mnemonic hi, fun halt => ?_, fun nop => ?_⟩
  · rw [halt]
    exact ⟨_, rfl, rfl⟩
  · rw [nop]
    rfl

end Sys2Proof.Machine
end

section
/-! SUPPORT. One dot of the PPU and the dots of a frame (spec/60_exceptions.md R561–R568). -/

namespace Sys2Proof.Machine

/-! What a dot leaves in each field it writes, by the position it enters. -/

theorem Ppu.atPosition_eq (u : Ppu) (line dot : Nat) : u.atPosition line dot = decide (u.position = (line, dot)) := by
  rw [Bool.eq_iff_iff]
  simp [Ppu.atPosition, Ppu.position]

/-- A dot sets vblank at (241, 1) and clears it at the clear point (R561, R562). -/
theorem Ppu.tick_vblank (u : Ppu) (offset : Nat) :
    (u.tick offset).vblank =
      if u.advancePosition.position = vblankClearPoint offset then false
      else if u.advancePosition.position = (241, 1) then true else u.vblank := by
  have fields : (u.tick offset).vblank =
      (!u.advancePosition.atPosition (vblankClearPoint offset).1 (vblankClearPoint offset).2 &&
        (u.advancePosition.atPosition 241 1 || u.advancePosition.vblank)) := rfl
  rw [fields, Ppu.atPosition_eq, Ppu.atPosition_eq, Ppu.advancePosition_vblank]
  split_ifs with clear set
  · rw [decide_eq_true clear]
    rfl
  · rw [decide_eq_false clear, decide_eq_true set]
    rfl
  · rw [decide_eq_false clear, decide_eq_false set]
    rfl

/-- A dot lets the oracle set sprite-zero hit, and clears it at (261, 1) (R563, R567). -/
theorem Ppu.tick_sprite0Hit (u : Ppu) (offset : Nat) :
    (u.tick offset).sprite0Hit =
      if u.advancePosition.position = (261, 1) then false
      else u.sprite0Hit || (Config.spriteFlags u.done).1 := by
  have fields : (u.tick offset).sprite0Hit =
      (!u.advancePosition.atPosition 261 1 &&
        (u.advancePosition.sprite0Hit || (Config.spriteFlags u.advancePosition.done).1)) := rfl
  rw [fields, Ppu.atPosition_eq, Ppu.advancePosition_sprite0Hit, Ppu.advancePosition_done]
  split_ifs with clear <;> simp [clear]

/-- A dot lets the oracle set sprite overflow, and clears it at (261, 1) (R563, R567). -/
theorem Ppu.tick_spriteOverflow (u : Ppu) (offset : Nat) :
    (u.tick offset).spriteOverflow =
      if u.advancePosition.position = (261, 1) then false
      else u.spriteOverflow || (Config.spriteFlags u.done).2 := by
  have fields : (u.tick offset).spriteOverflow =
      (!u.advancePosition.atPosition 261 1 &&
        (u.advancePosition.spriteOverflow || (Config.spriteFlags u.advancePosition.done).2)) := rfl
  rw [fields, Ppu.atPosition_eq, Ppu.advancePosition_spriteOverflow, Ppu.advancePosition_done]
  split_ifs with clear <;> simp [clear]

/-- A dot reloads v from t at (261, 0) where rendering is enabled (R565). -/
theorem Ppu.tick_v (u : Ppu) (offset : Nat) :
    (u.tick offset).v =
      if u.advancePosition.position = (261, 0) ∧ (u.mask.getLsbD 3 = true ∨ u.mask.getLsbD 4 = true) then u.t
      else u.v := by
  have fields : (u.tick offset).v =
      if (u.advancePosition.atPosition 261 0 && u.advancePosition.renderingEnabled) = true then u.advancePosition.t
      else u.advancePosition.v := rfl
  rw [fields, Ppu.atPosition_eq]
  simp [Ppu.renderingEnabled]

/-- A dot raises NMI at (241, 1) where ctrl[7] = 1 (R561). -/
theorem Ppu.raisesNmi_eq (u : Ppu) :
    u.raisesNmi = (decide (u.advancePosition.position = (241, 1)) && u.ctrl.getLsbD 7) := by
  rw [Ppu.raisesNmi, Ppu.atPosition_eq]

/-- The frame ends with this dot: at (261, 340), and in an odd frame at (261, 339) (R564, R566). -/
abbrev Ppu.EndsFrame (u : Ppu) : Prop := u.scanline = 261 ∧ (u.dot = 340 ∨ u.dot = 339 ∧ u.frame % 2 = 1)

/-- Where the next dot lies, and in which frame (R564, R566). -/
theorem Ppu.advancePosition_position (u : Ppu) :
    u.advancePosition.scanline =
        (if u.EndsFrame then 0 else if u.dot = 340 then u.scanline + 1 else u.scanline) ∧
      u.advancePosition.dot = (if u.EndsFrame ∨ u.dot = 340 then 0 else u.dot + 1) ∧
      u.advancePosition.frame = (if u.EndsFrame then u.frame + 1 else u.frame) := by
  by_cases ends : u.EndsFrame
  · rw [Ppu.advancePosition, if_pos ends, if_pos ends, if_pos (.inl ends), if_pos ends]
    exact ⟨rfl, rfl, rfl⟩
  by_cases last : u.dot = 340
  · rw [Ppu.advancePosition, if_neg ends, if_pos last, if_neg ends, if_pos last, if_pos (.inr last), if_neg ends]
    exact ⟨rfl, rfl, rfl⟩
  · rw [Ppu.advancePosition, if_neg ends, if_neg last, if_neg ends, if_neg last, if_neg (not_or.mpr ⟨ends, last⟩),
      if_neg ends]
    exact ⟨rfl, rfl, rfl⟩

/-- Settles O52: field by field, at the position the dot enters. -/
theorem dotEffects : Obligations.DotEffects := by
  intro s u wraps line dot entered offset clear
  obtain ⟨hline, hdot, hframe⟩ := u.advancePosition_position
  have hentered : u.advancePosition.position = entered := congrArg₂ Prod.mk hline hdot
  simp only [State.ppuStep]
  rw [Ppu.tick_eq, Ppu.tick_vblank, Ppu.tick_sprite0Hit, Ppu.tick_spriteOverflow, Ppu.tick_v, Ppu.raisesNmi_eq,
    hentered, hline, hdot, hframe]
  rfl
end Sys2Proof.Machine
end

section
/-! SUPPORT. What makes vblank rise (spec/60_exceptions.md R561): register accesses never do, so no instruction,
interrupt entry or DMA transfer does. -/

namespace Sys2Proof.Machine

/-! The stack lies in RAM, so its operations leave the PPU alone (R34, R40). -/

section

variable (s : State)

theorem State.push_ppu (b : Byte) : (s.push b).ppu = s.ppu := by rw [State.push_eq]

theorem State.pull_ppu : s.pull.2.ppu = s.ppu := by rw [State.pull_eq]

theorem State.push16_ppu (w : Addr) : (s.push16 w).ppu = s.ppu := by rw [State.push16_eq]

theorem State.pull16_ppu : s.pull16.2.ppu = s.ppu := by rw [State.pull16_eq]

theorem State.enterInterrupt_ppu (ret : Addr) (b4 : Bool) (v : Addr) (hv : v = nmiVector ∨ v = irqVector) :
    (s.enterInterrupt ret b4 v).ppu = s.ppu := by rw [State.enterInterrupt_eq s ret b4 v hv]

theorem State.returnFromInterrupt_ppu : s.returnFromInterrupt.ppu = s.ppu := by rw [State.returnFromInterrupt_eq]

theorem branch_ppu (taken : Bool) (r : Resolved) : (branch taken r s).ppu = s.ppu := by rw [branch_eq]

end

/-- Vblank is not set from `s` to `t`. -/
def VblankStaysClear (s t : State) : Prop := s.ppu.vblank = false → t.ppu.vblank = false

namespace VblankStaysClear

variable {s t u : State}

theorem trans (h : VblankStaysClear s t) (k : VblankStaysClear t u) : VblankStaysClear s u := fun clear => k (h clear)

/-- A read of PPUSTATUS clears vblank, and no other read changes it (R543). -/
theorem memRead (s : State) (a : Addr) : VblankStaysClear s (s.memRead a).2 := by
  intro clear
  rcases s.memRead_ppu a with same | ⟨n, read⟩
  · rw [same, clear]
  rw [read]
  by_cases status : n = 2
  · rw [status]
    rfl
  by_cases data : n = 7
  · rw [data]
    change s.ppu.dataRead.2.vblank = false
    rw [Ppu.dataRead_state, clear]
  · rw [Ppu.regRead_state _ status data, clear]

theorem memWrite (s : State) (a : Addr) (b : Byte) : VblankStaysClear s (s.memWrite a b) := fun clear => by
  rw [State.memWrite_ppu_vblank, clear]

/-- What leaves the PPU alone leaves vblank alone. -/
theorem of_same_ppu (same : t.ppu = s.ppu) : VblankStaysClear s t := fun clear => by rw [same, clear]

theorem resolve (s : State) (o : Operand) : VblankStaysClear s (resolve o s).2 := by
  by_cases ho : o.mode = .indirect
  · cases o with
    | indirect w => exact (memRead s w).trans (memRead (s.memRead w).2 _)
    | _ => cases ho
  · rw [resolve_state o s ho]
    exact id

theorem operand (s : State) (d : Descriptor) : VblankStaysClear s (s.operand d).2 := by
  cases d with
  | acc | imm k => exact id
  | addr a => exact memRead s a

theorem store (s : State) (d : Descriptor) (b : Byte) : VblankStaysClear s (s.store d b) := fun clear => by
  rw [State.store_ppu_vblank, clear]

theorem shiftOperand (s : State) (d : Descriptor) (f : Byte → Flags → Byte × Flags) :
    VblankStaysClear s (s.shiftOperand d f).2 := by
  rw [State.shiftOperand_state]
  exact (operand s d).trans (store (s.operand d).2 d _)

theorem enterInterrupt (s : State) (ret : Addr) (b4 : Bool) (v : Addr) (hv : v = nmiVector ∨ v = irqVector) :
    VblankStaysClear s (s.enterInterrupt ret b4 v) :=
  of_same_ppu (s.enterInterrupt_ppu ret b4 v hv)

theorem underUnstablePolicy (h : VblankStaysClear s t) : VblankStaysClear s (s.underUnstablePolicy t) := by
  rcases s.underUnstablePolicy_cases t with ⟨-, e⟩ | ⟨-, e⟩ <;> rw [e]
  · exact h
  · exact id

theorem jam (s : State) : VblankStaysClear s s.jam := by
  rcases s.jam_cases with ⟨-, e⟩ | ⟨-, e⟩ <;> rw [e] <;> exact id

theorem fetchBytes (n : Nat) (s : State) : VblankStaysClear s (State.fetchBytes n s).2 := by
  induction n generalizing s with
  | zero => exact id
  | succ n ih =>
    have first : VblankStaysClear s s.fetch8.2 := memRead s s.pc
    exact first.trans (ih s.fetch8.2)

theorem fetchInstr (s : State) : VblankStaysClear s s.fetchInstr.2 := by
  rw [State.fetchInstr_eq_fetchBytes]
  exact fetchBytes _ s

theorem dmaCopy (n : Nat) (s : State) : VblankStaysClear s (State.dmaCopy n s) := by
  induction n with
  | zero => exact id
  | succ n ih =>
    have next : VblankStaysClear (State.dmaCopy n s) ((State.dmaCopy n s).dmaByte n) := memRead (State.dmaCopy n s) _
    exact ih.trans next

theorem dmaTransfer (s : State) : VblankStaysClear s s.dmaTransfer := by
  rw [VblankStaysClear, State.dmaTransfer, State.addCycles_ppu]
  exact dmaCopy 256 { s with dmaPending := false }

end VblankStaysClear

/-- No handler sets vblank: it reaches the PPU by bus accesses only. -/
theorem Meaning.vblankStaysClear {mn : String} {h : Handler} {fp : Bool → List Aspect} (hm : Meaning mn h fp)
    (r : Resolved) (s : State) : VblankStaysClear s (h r s) := by
  have read := VblankStaysClear.operand s r.desc
  cases hm with
  | adc | sbc | usbc | and | ora | eor | cmp | cpx | cpy | bit | lda | ldx | ldy | lax | las | lxa | ane | anc | alr
  | arr | sbx => exact read
  | sta | stx | sty | sax => exact .store s r.desc _
  | inc | dec | dcp | isc => exact read.trans (.store (s.operand r.desc).2 r.desc _)
  | asl | lsr | rol | ror | slo | rla | sre | rra => exact .shiftOperand s r.desc _
  | sha | shx | shy => exact (VblankStaysClear.memWrite s _ _).underUnstablePolicy
  | tas =>
    have stored : ∀ v a b, VblankStaysClear s ((s.setSp v).memWrite a b) := fun v => .memWrite (s.setSp v)
    exact (stored _ _ _).underUnstablePolicy
  | pha | php => exact .of_same_ppu (s.push_ppu _)
  | pla | plp => exact .of_same_ppu s.pull_ppu
  | jsr => exact .of_same_ppu (s.push16_ppu _)
  | rts => exact .of_same_ppu s.pull16_ppu
  | rti => exact .of_same_ppu s.returnFromInterrupt_ppu
  | brk => exact .enterInterrupt s _ _ _ (.inr rfl)
  | jam => exact .jam s
  | bpl | bmi | bvc | bvs | bcc | bcs | bne | beq => exact .of_same_ppu (branch_ppu s _ r)
  | _ => exact id

theorem exec_vblankStaysClear {i : Instr} {s t : State} (he : exec i s = .next t) : VblankStaysClear s t := by
  obtain ⟨h, fp, base, hm, -, hr⟩ := exec_eq_runInstr i
  rw [hr, runInstr_next] at he
  injection he with he
  subst he
  exact (VblankStaysClear.resolve s i.operand).trans (hm.vblankStaysClear _ _)

/-- A step that sets vblank is a dot (R561). -/
theorem step_sets_vblank {s t : State} (h : step s = .next t) (clear : s.ppu.vblank = false)
    (set : t.ppu.vblank = true) : t = s.ppuStep := by
  have rises : ¬ VblankStaysClear s t := fun stays => by simp [stays clear] at set
  cases step_cases h with
  | instr _ i hr => exact absurd ((VblankStaysClear.fetchInstr s).trans (exec_vblankStaysClear hr.run)) rises
  | idle => exact absurd id rises
  | nmi => exact absurd (VblankStaysClear.enterInterrupt { s with nmiPending := false } _ _ _ (.inl rfl)) rises
  | irq => exact absurd (VblankStaysClear.enterInterrupt s _ _ _ (.inr rfl)) rises
  | dma => exact absurd (VblankStaysClear.dmaTransfer s) rises
  | dot => rfl
  | host =>
    rw [State.hostStep_eq] at rises
    exact absurd id rises

/-- A step that raises NMI is a dot (R561). -/
theorem step_raises_nmi {s t : State} (h : step s = .next t) (clear : s.nmiPending = false)
    (raised : t.nmiPending = true) : t = s.ppuStep := by
  have rises : t.nmiPending ≠ s.nmiPending := by simp [clear, raised]
  cases step_cases h with
  | instr _ i hr =>
    have fetched : s.fetchInstr.2.nmiPending = s.nmiPending := ChangesOnly.fetchInstr s .nmiPending (by decide)
    have run : t.nmiPending = s.fetchInstr.2.nmiPending := exec_keeps hr.run .nmiPending List.not_mem_nil
    exact absurd (run.trans fetched) rises
  | idle => exact absurd rfl rises
  | nmi pending => simp [clear] at pending
  | irq => exact absurd (ChangesOnly.irqEntry s .nmiPending (by decide)) rises
  | dma => exact absurd (ChangesOnly.dmaTransfer s .nmiPending (by decide)) rises
  | dot => rfl
  | host => exact absurd (ChangesOnly.hostStep s .nmiPending (by decide)) rises

/-- A step leaves the position and the frame count alone, or is a dot (R564). -/
theorem step_keeps_frame_or_dot {s t : State} (h : step s = .next t) : t.ppu.frame = s.ppu.frame ∨ t = s.ppuStep := by
  have frame : ∀ {u : State}, Aspect.outside.Kept s u → u.ppu.frame = s.ppu.frame :=
    fun ⟨_, _, _, _, _, _, frame, _⟩ => frame
  cases step_cases h with
  | instr _ i hr =>
    have fetched : Aspect.outside.Kept s s.fetchInstr.2 := ChangesOnly.fetchInstr s .outside (by decide)
    exact .inl (frame (fetched.trans (exec_keeps hr.run .outside List.not_mem_nil)))
  | idle => exact .inl (frame (ChangesOnly.idle s .outside (by decide)))
  | nmi => exact .inl (frame (ChangesOnly.nmiEntry s .outside (by decide)))
  | irq => exact .inl (frame (ChangesOnly.irqEntry s .outside (by decide)))
  | dma => exact .inl (frame (ChangesOnly.dmaTransfer s .outside (by decide)))
  | dot => exact .inr rfl
  | host =>
    rw [State.hostStep_eq]
    exact .inl rfl

end Sys2Proof.Machine
end

section
/-! SUPPORT. The dots of a frame, counted from (0, 0) (spec/60_exceptions.md R564, R566, spec/95_test_vectors.md S6). -/

namespace Sys2Proof.Machine

/-! What a dot leaves in a state, from what it leaves in the PPU (R568). -/

section

variable (s : State)

theorem State.ppuStep_scanline : s.ppuStep.ppu.scanline = s.ppu.advancePosition.scanline :=
  Ppu.tick_scanline s.ppu s.params.vblankClearOffset

theorem State.ppuStep_dot : s.ppuStep.ppu.dot = s.ppu.advancePosition.dot :=
  Ppu.tick_dot s.ppu s.params.vblankClearOffset

theorem State.ppuStep_frame : s.ppuStep.ppu.frame = s.ppu.advancePosition.frame :=
  Ppu.tick_frame s.ppu s.params.vblankClearOffset

theorem State.ppuStep_position : s.ppuStep.ppu.position = s.ppu.advancePosition.position :=
  congrArg₂ Prod.mk s.ppuStep_scanline s.ppuStep_dot

theorem State.ppuStep_ctrl : s.ppuStep.ppu.ctrl = s.ppu.ctrl := Ppu.tick_ctrl s.ppu s.params.vblankClearOffset

theorem State.ppuStep_vblank :
    s.ppuStep.ppu.vblank =
      if s.ppuStep.ppu.position = vblankClearPoint s.params.vblankClearOffset then false
      else if s.ppuStep.ppu.position = (241, 1) then true else s.ppu.vblank := by
  rw [State.ppuStep_position]
  exact Ppu.tick_vblank s.ppu s.params.vblankClearOffset

theorem State.ppuStep_nmiPending :
    s.ppuStep.nmiPending =
      (s.nmiPending || (decide (s.ppuStep.ppu.position = (241, 1)) && s.ppu.ctrl.getLsbD 7)) := by
  rw [State.ppuStep_position, ← Ppu.raisesNmi_eq]
  rfl

end

/-! The frame. -/

/-- The dots of a frame with this count: an odd one is a dot shorter (R566). -/
def dotsInFrame (frame : Nat) : Nat := if frame % 2 = 0 then 89342 else 89341

/-- The PPU stands k dots past (0, 0) in the frame with this count: 341 dots to the scanline (R56). -/
structure Ppu.AtFrameDot (u : Ppu) (frame k : Nat) : Prop where
  scanline : u.scanline = k / 341
  dot : u.dot = k % 341
  count : u.frame = frame

section

variable {u : Ppu} {s : State} {frame k : Nat}

/-- On scanlines of 341 dots a position is reached at one dot of the frame only. -/
theorem Ppu.AtFrameDot.position_eq_iff (h : u.AtFrameDot frame k) {line dot : Nat} (hd : dot < 341) :
    u.position = (line, dot) ↔ k = 341 * line + dot := by
  rw [Ppu.position, h.scanline, h.dot, Prod.mk.injEq]
  omega

/-- The frame ends with its last dot (R566). -/
theorem Ppu.AtFrameDot.endsFrame_iff (h : u.AtFrameDot frame k) (hk : k < dotsInFrame frame) :
    u.EndsFrame ↔ k + 1 = dotsInFrame frame := by
  unfold Ppu.EndsFrame
  rw [h.scanline, h.dot, h.count]
  unfold dotsInFrame at hk ⊢
  by_cases even : frame % 2 = 0
  · rw [if_pos even] at hk ⊢
    omega
  · rw [if_neg even] at hk ⊢
    omega

/-- Before the frame's last dot, a dot goes on by one (R564). -/
theorem Ppu.AtFrameDot.advance (h : u.AtFrameDot frame k) (hk : k + 1 < dotsInFrame frame) :
    u.advancePosition.AtFrameDot frame (k + 1) := by
  obtain ⟨hline, hdot, hcount⟩ := u.advancePosition_position
  have inside : ¬ u.EndsFrame := mt (h.endsFrame_iff (Nat.lt_of_succ_lt hk)).mp hk.ne
  simp only [inside, if_false, false_or] at hline hdot hcount
  rw [h.scanline, h.dot] at hline
  rw [h.dot] at hdot
  refine ⟨hline.trans ?_, hdot.trans ?_, hcount.trans h.count⟩ <;> split <;> omega

/-- The frame's last dot is followed by (0, 0) of the next frame (R564, R566). -/
theorem Ppu.AtFrameDot.wrap (h : u.AtFrameDot frame k) (hk : k + 1 = dotsInFrame frame) :
    u.advancePosition.AtFrameDot (frame + 1) 0 := by
  obtain ⟨hline, hdot, hcount⟩ := u.advancePosition_position
  have last : u.EndsFrame := (h.endsFrame_iff (Nat.lt_of_succ_le hk.le)).mpr hk
  rw [if_pos last] at hline hcount
  rw [if_pos (.inl last)] at hdot
  exact ⟨hline, hdot, hcount.trans (congrArg (· + 1) h.count)⟩

/-- The position and the frame count after a dot are those `AdvancePosition` gives (R568). -/
theorem State.ppuStep_atFrameDot (h : s.ppu.advancePosition.AtFrameDot frame k) :
    s.ppuStep.ppu.AtFrameDot frame k :=
  ⟨s.ppuStep_scanline.trans h.scanline, s.ppuStep_dot.trans h.dot, s.ppuStep_frame.trans h.count⟩

/-- From (0, 0) the PPU is after k dots at dot k of the frame. -/
theorem atFrameDot_iterate (start : s.ppu.position = (0, 0)) (hk : k < dotsInFrame s.ppu.frame) :
    (State.ppuStep^[k] s).ppu.AtFrameDot s.ppu.frame k := by
  induction k with
  | zero =>
    obtain ⟨line, dot⟩ := Prod.mk.inj start
    exact ⟨line, dot, rfl⟩
  | succ k ih =>
    rw [Function.iterate_succ_apply']
    exact State.ppuStep_atFrameDot ((ih (Nat.lt_of_succ_lt hk)).advance hk)

/-- After a whole frame the PPU is at (0, 0) of the next one. -/
theorem atFrameDot_dotsInFrame (start : s.ppu.position = (0, 0)) :
    (State.ppuStep^[dotsInFrame s.ppu.frame] s).ppu.AtFrameDot (s.ppu.frame + 1) 0 := by
  obtain ⟨k, hk⟩ : ∃ k, dotsInFrame s.ppu.frame = k + 1 := by
    unfold dotsInFrame
    split <;> exact ⟨_, rfl⟩
  rw [hk, Function.iterate_succ_apply']
  exact State.ppuStep_atFrameDot ((atFrameDot_iterate start (by omega)).wrap hk.symm)

/-- A dot leaves the frame count alone, or adds 1 to it on the wrap from scanline 261 to (0, 0) (R566). -/
theorem Ppu.advancePosition_frame (u : Ppu) :
    u.advancePosition.frame = u.frame ∨
      (u.advancePosition.frame = u.frame + 1 ∧ u.scanline = 261 ∧ u.advancePosition.position = (0, 0)) := by
  obtain ⟨hline, hdot, hcount⟩ := u.advancePosition_position
  by_cases ends : u.EndsFrame
  · rw [if_pos ends] at hline hcount
    rw [if_pos (.inl ends)] at hdot
    exact .inr ⟨hcount, ends.1, congrArg₂ Prod.mk hline hdot⟩
  · rw [if_neg ends] at hcount
    exact .inl hcount

/-! Vblank and NMI in a frame. -/

/-- The clear point lies 89,001 - N dots past (0, 0) (R562). -/
theorem Ppu.AtFrameDot.position_eq_clearPoint_iff (h : u.AtFrameDot frame k) (offset : Fin 341) :
    u.position = vblankClearPoint offset ↔ k = 89001 - offset := by
  unfold vblankClearPoint
  split
  · rw [h.position_eq_iff (by decide)]
    omega
  · rw [h.position_eq_iff (by omega)]
    omega

/-- What k dots of a frame that starts with vblank and NMI clear leave: the two set from dot 82,182 on, (241, 1), and
vblank clear again from the clear point on (R561, R562). -/
structure InWindow (s : State) (k : Nat) (t : State) : Prop where
  vblank : t.ppu.vblank = decide (82182 ≤ k ∧ k < 89001 - s.params.vblankClearOffset)
  nmi : t.nmiPending = (decide (82182 ≤ k) && s.ppu.ctrl.getLsbD 7)
  ctrl : t.ppu.ctrl = s.ppu.ctrl
  params : t.params = s.params

/-- A dot inside the frame keeps to the window. -/
theorem InWindow.dot {t : State} (h : InWindow s k t) (next : t.ppuStep.ppu.AtFrameDot frame (k + 1)) :
    InWindow s (k + 1) t.ppuStep := by
  have entersVblank := next.position_eq_iff (line := 241) (dot := 1) (by decide)
  have entersClear := next.position_eq_clearPoint_iff s.params.vblankClearOffset
  have bound := s.params.vblankClearOffset.isLt
  refine ⟨?_, ?_, t.ppuStep_ctrl.trans h.ctrl, h.params⟩
  · rw [State.ppuStep_vblank, h.params, h.vblank]
    simp only [entersVblank, entersClear]
    split_ifs
    · exact (decide_eq_false (by omega)).symm
    · exact (decide_eq_true (by omega)).symm
    · exact decide_eq_decide.mpr (by omega)
  · have reached : 82182 ≤ k + 1 ↔ 82182 ≤ k ∨ k + 1 = 341 * 241 + 1 := by omega
    rw [State.ppuStep_nmiPending, h.nmi, h.ctrl, ← Bool.and_or_distrib_right]
    simp only [entersVblank, reached, Bool.decide_or]

theorem inWindow_iterate (start : s.ppu.position = (0, 0)) (vblank : s.ppu.vblank = false)
    (nmi : s.nmiPending = false) (hk : k < dotsInFrame s.ppu.frame) : InWindow s k (State.ppuStep^[k] s) := by
  induction k with
  | zero => exact ⟨vblank, nmi, rfl, rfl⟩
  | succ k ih =>
    have next := atFrameDot_iterate start hk
    rw [Function.iterate_succ_apply'] at next ⊢
    exact (ih (Nat.lt_of_succ_lt hk)).dot next

/-- A dot that sets vblank enters (241, 1) (R561). -/
theorem State.ppuStep_sets_vblank (clear : s.ppu.vblank = false) (set : s.ppuStep.ppu.vblank = true) :
    s.ppuStep.ppu.position = (241, 1) := by
  rw [State.ppuStep_vblank, clear] at set
  by_contra elsewhere
  simp [elsewhere] at set

/-- A dot that raises NMI enters (241, 1) (R561). -/
theorem State.ppuStep_raises_nmi (clear : s.nmiPending = false) (raised : s.ppuStep.nmiPending = true) :
    s.ppuStep.ppu.position = (241, 1) := by
  rw [State.ppuStep_nmiPending, clear] at raised
  by_contra elsewhere
  simp [elsewhere] at raised

end

/-- Settles O53, by induction on the dots of a frame; and no step but a dot touches the frame count. -/
theorem frameLength : Obligations.FrameLength := by
  intro s start length after
  have wrapped : (after length).AtFrameDot (s.ppu.frame + 1) 0 := atFrameDot_dotsInFrame start
  have inside : ∀ k < length, (after k).AtFrameDot s.ppu.frame k := fun k => atFrameDot_iterate start
  refine ⟨(wrapped.position_eq_iff (by decide)).mpr rfl, wrapped.count, fun k pos hk => ⟨?_, (inside k hk).count⟩,
    fun w t h => ?_⟩
  · rw [ne_eq, (inside k hk).position_eq_iff (by decide)]
    omega
  · rcases step_keeps_frame_or_dot h with same | rfl
    · exact .inl same
    · rw [State.ppuStep_frame, State.ppuStep_position]
      exact w.ppu.advancePosition_frame

/-- Settles O54, by induction on the dots of a frame; and no step but a dot sets vblank or raises NMI. -/
theorem vblankWindow : Obligations.VblankWindow := by
  intro s k start vblank nmi hk offset t
  have window : InWindow s k t := inWindow_iterate start vblank nmi hk
  refine ⟨window.vblank, window.nmi, fun w x h => ⟨fun clear set => ?_, fun clear raised => ?_⟩⟩
  · obtain rfl := step_sets_vblank h clear set
    exact ⟨rfl, State.ppuStep_sets_vblank clear set⟩
  · obtain rfl := step_raises_nmi h clear raised
    exact ⟨rfl, State.ppuStep_raises_nmi clear raised⟩

end Sys2Proof.Machine
end

section
/-! SUPPORT. The coordinator and the dispatch (spec/60_exceptions.md R502, R510, R520, R530, R560): what is due, in what
order, and that it always goes on. -/

namespace Sys2Proof.Machine

section

variable {s : State}

theorem step_of_cpu_due (running : s.stop = false) (due : s.cycles < s.master) : step s = cpuDispatch s := by
  have cpuDue : s.cpuDue = true := by simp [State.cpuDue, running, due]
  rw [step, advance, if_pos cpuDue]

theorem step_of_ppu_due (running : s.stop = false) (ended : s.master ≤ s.cycles) (due : s.ppu.done < 3 * s.master) :
    step s = .next s.ppuStep := by
  have cpuDone : ¬ s.cpuDue = true := by simp [State.cpuDue, ended]
  have ppuDue : s.ppuDue = true := by simp [State.ppuDue, dotsPerCycle, running, due]
  rw [step, advance, if_neg cpuDone, if_pos ppuDue]

/-- With neither engine due, or the machine stopped, the host's next `Step(n)` starts (R530, R531). -/
theorem step_of_none_due (ended : s.stop = true ∨ (s.master ≤ s.cycles ∧ 3 * s.master ≤ s.ppu.done)) :
    step s = .next s.hostStep := by
  have cpuDone : ¬ s.cpuDue = true := by rcases ended with stop | ⟨cpu, -⟩ <;> simp [State.cpuDue, *]
  have ppuDone : ¬ s.ppuDue = true := by
    rcases ended with stop | ⟨-, ppu⟩
    · simp [State.ppuDue, stop]
    · simp [State.ppuDue, dotsPerCycle, Nat.not_lt.mpr ppu]
  rw [step, advance, if_neg cpuDone, if_neg ppuDone]

theorem State.hostStep_cons {n : Nat} {rest : List Nat} (h : s.hostSteps = n :: rest) :
    s.hostStep = { s with master := s.master + n, hostSteps := rest } := by
  simp only [State.hostStep, h]

theorem State.hostStep_nil (h : s.hostSteps = []) : s.hostStep = s := by
  simp only [State.hostStep, h]

/-- The opcode and operand bytes fetched always decode, and every instruction answers a next state (R151). -/
theorem executeInstruction_goes_on (s : State) : ∃ t, executeInstruction s = .next t := by
  have enough : (opRow s.fetch8.1).mode.operandBytes ≤
      (State.fetchBytes (opRow s.fetch8.1).mode.operandBytes s.fetch8.2).1.length :=
    (State.fetchBytes_length _ _).ge
  have decoded : decode s.fetchInstr.1 = _ := decode_of_operandBytes_le enough
  rw [executeInstruction_of_decode decoded]
  exact everyInstructionCompletes _ _

theorem cpuDispatch_goes_on (s : State) : ∃ t, cpuDispatch s = .next t := by
  unfold cpuDispatch
  split_ifs
  · exact ⟨_, rfl⟩
  · exact ⟨_, rfl⟩
  · exact ⟨_, rfl⟩
  · exact ⟨_, rfl⟩
  · exact executeInstruction_goes_on s

/-- A dispatch takes what is pending in the order NMI, IRQ with I clear, DMA, instruction (R502, R510). -/
theorem cpuDispatch_order (notJammed : s.jammed = false) (notRefused : s.refused = false) :
    (s.nmiPending = true → cpuDispatch s = .next s.nmiEntry) ∧
      (s.nmiPending = false → s.irqLine = true → s.p.i = false → cpuDispatch s = .next s.irqEntry) ∧
      (s.nmiPending = false → s.irqLine = false ∨ s.p.i = true →
        (s.dmaPending = true → cpuDispatch s = .next s.dmaTransfer) ∧
        (s.dmaPending = false → cpuDispatch s = executeInstruction s)) := by
  have running : ¬ (s.jammed || s.refused) = true := by simp [notJammed, notRefused]
  rw [cpuDispatch, if_neg running]
  refine ⟨fun nmi => if_pos nmi, fun noNmi line enabled => ?_, fun noNmi noIrq => ?_⟩
  · rw [if_neg (by simp [noNmi]), if_pos (by simp [line, enabled])]
  · have masked : ¬ (s.irqLine && !s.p.i) = true := by rcases noIrq with line | disabled <;> simp [*]
    rw [if_neg (by simp [noNmi]), if_neg masked]
    exact ⟨fun dma => if_pos dma, fun noDma => if_neg (by simp [noDma])⟩

/-- The byte an NMI or IRQ entry pushes has bits 5:4 = 10 (R37, R503). -/
theorem Flags.pushedByte_false (p : Flags) :
    p.pushedByte false =
      BitVec.ofBool p.n ++ BitVec.ofBool p.v ++ 0b10#2 ++ BitVec.ofBool p.d ++ BitVec.ofBool p.i ++
        BitVec.ofBool p.z ++ BitVec.ofBool p.c := by
  obtain ⟨c, z, i, d, v, n⟩ := p
  revert c z i d v n
  decide

/-- A step with an NMI request pending keeps it, or is the NMI entry (R505). -/
theorem step_keeps_nmi_or_enters {t : State} (h : step s = .next t) (pending : s.nmiPending = true) :
    t.nmiPending = true ∨ t = s.nmiEntry := by
  have keeps : ∀ {u : State}, Aspect.nmiPending.Kept s u → u.nmiPending = true ∨ u = s.nmiEntry :=
    fun kept => .inl (Eq.trans kept pending)
  cases step_cases h with
  | instr _ i hr => simp [hr.noNmi] at pending
  | idle => exact keeps (ChangesOnly.idle s .nmiPending (by decide))
  | nmi => exact .inr rfl
  | irq => exact keeps (ChangesOnly.irqEntry s .nmiPending (by decide))
  | dma => exact keeps (ChangesOnly.dmaTransfer s .nmiPending (by decide))
  | dot => exact .inl (Bool.or_eq_true_iff.mpr (.inl pending))
  | host => exact keeps (ChangesOnly.hostStep s .nmiPending (by decide))

end

/-- Settles O8: of all a step can do, only the dispatch of an instruction could stop, and it does not. -/
theorem everyStepGoesOn : Obligations.EveryStepGoesOn := by
  intro s
  unfold step advance
  split_ifs
  · exact cpuDispatch_goes_on s
  · exact ⟨_, rfl⟩
  · exact ⟨_, rfl⟩

/-- Settles O13: neither engine is due in a stopped machine. -/
theorem stoppedMachineOnlyCountsTime : Obligations.StoppedMachineOnlyCountsTime := by
  intro s stop
  rw [step_of_none_due (.inl stop)]
  exact ⟨fun n rest listed => by rw [State.hostStep_cons listed], fun empty => by rw [State.hostStep_nil empty]⟩

/-- Settles O18: the CPU while it is due, in the dispatch's order; then the PPU while it is due; then the host. -/
theorem dispatchAndCoordinatorOrder : Obligations.DispatchAndCoordinatorOrder := by
  intro s running
  refine ⟨fun due => ⟨fun halted => step_of_halted halted running due, fun notJammed notRefused => ?_⟩,
    fun ended => ⟨step_of_ppu_due running ended, fun ppu n rest listed => ?_⟩⟩
  · obtain ⟨nmi, irq, none⟩ := cpuDispatch_order notJammed notRefused
    rw [step_of_cpu_due running due]
    exact ⟨nmi, irq, fun noNmi noIrq => (none noNmi noIrq).1, fun noNmi noIrq => (none noNmi noIrq).2⟩
  · rw [step_of_none_due (.inr ⟨ended, ppu⟩), State.hostStep_cons listed]

/-- Settles O20: the entry is taking the interrupt with the request cleared; no other step clears a request. -/
theorem nmiEntrySavesAndVectors : Obligations.NmiEntrySavesAndVectors := by
  refine fun s => ⟨?_, fun t h pending => step_keeps_nmi_or_enters h pending⟩
  rw [State.nmiEntry, State.enterInterrupt_eq_stackIndex _ _ _ _ (.inl rfl), Flags.pushedByte_false]
  rfl

end Sys2Proof.Machine
end

section
/-! SUPPORT. The DMA transfer (spec/60_exceptions.md R507, R508): the bytes it leaves in OAM, and what its reads do to
the rest of the state, which no byte already copied can change. -/

namespace Sys2Proof.Machine

/-- s with its sprite memory replaced. -/
def State.setOam (s : State) (oam : Mem) : State := { s with ppu := { s.ppu with oam := oam } }

/-- s after the first n bus reads of the DMA transfer, with nothing stored in OAM. -/
def State.dmaReads : Nat → State → State
  | 0, s => s
  | n + 1, s => ((State.dmaReads n s).memRead (s.dmaSrc + BitVec.ofNat 16 n)).2

/-- The OAM address of byte i of the transfer (R507). -/
def State.dmaSlot (s : State) (i : Nat) : Nat := (s.ppu.oamAddr.toNat + i) % 256

/-- Byte i of the transfer: what the bus reads after the first i bytes (R507). -/
def State.dmaValue (s : State) (i : Nat) : Byte :=
  ((State.dmaCopy i s).memRead (s.dmaSrc + BitVec.ofNat 16 i)).1

/-- What a read of PPUDATA gives: the buffer, or in the palette range the cell (R550). -/
theorem Ppu.dataRead_fst (u : Ppu) :
    u.dataRead.1 = if 0x3F00 ≤ u.dataAddr then u.memRead u.dataAddr else u.readBuffer := by
  unfold Ppu.dataRead
  split <;> rfl

/-- What a read of PPUDATA leaves: the buffer refilled, and v moved (R550, R552). -/
theorem Ppu.dataRead_snd (u : Ppu) :
    u.dataRead.2 =
      { u with
        readBuffer := u.memRead (if 0x3F00 ≤ u.dataAddr then u.dataAddr - 0x1000 else u.dataAddr)
        v := u.v + if u.ctrl.getLsbD 2 then 32 else 1 } := by
  unfold Ppu.dataRead
  split <;> rfl

/-- OAM plays no part in what a register read does to the rest of the PPU (R543). -/
theorem Ppu.regRead_setOam (u : Ppu) (oam : Mem) (n : BitVec 3) :
    (Ppu.regRead { u with oam := oam } n).2 = { (u.regRead n).2 with oam := oam } := by
  by_cases status : n = 2
  · rw [status]
    rfl
  by_cases data : n = 7
  · rw [data]
    change (Ppu.dataRead _).2 = { u.dataRead.2 with oam := oam }
    rw [Ppu.dataRead_snd, Ppu.dataRead_snd]
    rfl
  · rw [Ppu.regRead_state _ status data, Ppu.regRead_state _ status data]

/-- OAM plays no part in what a bus read does to the rest of the state (R95, R543). -/
theorem State.memRead_setOam (s : State) (oam : Mem) (a : Addr) :
    ((s.setOam oam).memRead a).2 = (s.memRead a).2.setOam oam := by
  unfold State.memRead
  cases readClass (redirect a) with
  | ram | flat | controller port => rfl
  | ppuRegister n => exact congrArg (fun u => { s with ppu := u }) (s.ppu.regRead_setOam oam n)

section

variable (s : State) (n : Nat)

theorem State.dmaCopy_dmaSrc : (State.dmaCopy n s).dmaSrc = s.dmaSrc := by rw [State.dmaCopy_eq]

theorem State.dmaCopy_oamAddr : (State.dmaCopy n s).ppu.oamAddr = s.ppu.oamAddr := by rw [State.dmaCopy_eq]

theorem State.dmaCopy_mem : (State.dmaCopy n s).mem = s.mem := by rw [State.dmaCopy_eq]

theorem State.dmaCopy_cycles : (State.dmaCopy n s).cycles = s.cycles := by rw [State.dmaCopy_eq]

/-- One byte of the transfer: its value, stored at its slot (R507). -/
theorem State.dmaCopy_succ_eq :
    State.dmaCopy (n + 1) s =
      ((State.dmaCopy n s).memRead (s.dmaSrc + BitVec.ofNat 16 n)).2.setOam
        ((State.dmaCopy n s).ppu.oam.write (s.dmaSlot n) (s.dmaValue n)) := by
  have slot : (s.ppu.oamAddr + BitVec.ofNat 8 n).toNat = s.dmaSlot n := by
    rw [BitVec.toNat_add, BitVec.toNat_ofNat, Nat.add_mod_mod]
    rfl
  rw [State.dmaCopy_succ, State.dmaByte, State.memRead_ppu_oam, State.memRead_ppu_oamAddr, State.dmaCopy_oamAddr,
    State.dmaCopy_dmaSrc, slot]
  rfl

/-- But for OAM, the transfer does what its reads do. -/
theorem State.dmaCopy_eq_dmaReads :
    State.dmaCopy n s = (State.dmaReads n s).setOam (State.dmaCopy n s).ppu.oam := by
  induction n with
  | zero => rfl
  | succ n ih =>
    rw [State.dmaCopy_succ_eq, ih, State.memRead_setOam]
    rfl

theorem State.dmaCopy_ppu :
    (State.dmaCopy n s).ppu = { (State.dmaReads n s).ppu with oam := (State.dmaCopy n s).ppu.oam } :=
  congrArg State.ppu (s.dmaCopy_eq_dmaReads n)

theorem State.dmaCopy_controllerLog : (State.dmaCopy n s).controllerLog = (State.dmaReads n s).controllerLog := by
  rw [State.dmaCopy_eq_dmaReads]
  rfl

end

variable (s : State) {n i : Nat}

/-- The 256 slots are distinct. -/
theorem State.dmaSlot_ne (hi : i < n) (hn : n < 256) : s.dmaSlot i ≠ s.dmaSlot n := by
  unfold State.dmaSlot
  omega

/-- A byte stays in its slot to the end of the transfer (R507). -/
theorem State.dmaCopy_read_slot (hi : i < n) (hn : n ≤ 256) :
    (State.dmaCopy n s).ppu.oam.read (s.dmaSlot i) = s.dmaValue i := by
  induction n with
  | zero => exact absurd hi (Nat.not_lt_zero i)
  | succ n ih =>
    rw [State.dmaCopy_succ_eq]
    change ((State.dmaCopy n s).ppu.oam.write (s.dmaSlot n) (s.dmaValue n)).read (s.dmaSlot i) = _
    rcases Nat.lt_succ_iff_lt_or_eq.mp hi with before | rfl
    · rw [Mem.read_write_other _ _ (s.dmaSlot_ne before hn), ih before (Nat.le_of_succ_le hn)]
    · exact Mem.read_write_same ..

/-- The transfer is the copy of 256 bytes, with the request cleared and the cost added (R507, R508). -/
theorem State.dmaTransfer_eq_dmaCopy :
    s.dmaTransfer =
      { State.dmaCopy 256 { s with dmaPending := false } with cycles := s.cycles + s.params.dmaCycles } := by
  rw [State.dmaTransfer, State.addCycles, State.dmaCopy_cycles]

theorem State.dmaTransfer_oam :
    s.dmaTransfer.ppu.oam = (State.dmaCopy 256 { s with dmaPending := false }).ppu.oam := by
  rw [State.dmaTransfer, State.addCycles_ppu]

/-- But for OAM, the request and the cost, the transfer does what its reads do (R507, R508). -/
theorem State.dmaTransfer_eq_dmaReads :
    s.dmaTransfer =
      { (State.dmaReads 256 { s with dmaPending := false }).setOam s.dmaTransfer.ppu.oam with
        cycles := s.cycles + s.params.dmaCycles } := by
  rw [State.dmaTransfer_oam, ← State.dmaCopy_eq_dmaReads]
  exact s.dmaTransfer_eq_dmaCopy

/-- Byte i of the transfer is in its slot at the end (R507). -/
theorem State.dmaTransfer_read_slot (hi : i < 256) :
    s.dmaTransfer.ppu.oam.read (s.dmaSlot i) = State.dmaValue { s with dmaPending := false } i := by
  rw [State.dmaTransfer_oam]
  exact State.dmaCopy_read_slot { s with dmaPending := false } hi (Nat.le_refl 256)

/-- Reads without an effect leave the state as it is. -/
theorem State.dmaReads_of_no_effect
    (h : ∀ i < n, ∀ t : State, (t.memRead (s.dmaSrc + BitVec.ofNat 16 i)).2 = t) : State.dmaReads n s = s := by
  induction n with
  | zero => rfl
  | succ n ih => rw [State.dmaReads, h n (Nat.lt_succ_self n), ih fun i hi => h i (Nat.lt_succ_of_lt hi)]

end Sys2Proof.Machine
end

section
/-! SUPPORT. The DMA transfer from the PPU's registers, pages $20–$3F (spec/60_exceptions.md R507, R543, R550,
spec/92_eei_decisions.md D9). -/

namespace Sys2Proof.Machine

theorem Ppu.regRead_latch (u : Ppu) {n : BitVec 3} (status : n ≠ 2) (oam : n ≠ 4) (data : n ≠ 7) :
    u.regRead n = (u.ioLatch, u) := by
  rw [Ppu.regRead, if_neg status, if_neg oam, if_neg data]

/-- Address i of such a page is register i mod 8 (R90). -/
theorem State.memRead_registerPage (s : State) {page i : Nat} (hp : 0x20 ≤ page) (hp' : page < 0x40) (hi : i < 256) :
    s.memRead (BitVec.ofNat 16 (page * 0x100) + BitVec.ofNat 16 i) =
      ((s.ppu.regRead (BitVec.ofNat 3 i)).1, { s with ppu := (s.ppu.regRead (BitVec.ofNat 3 i)).2 }) := by
  have address : (BitVec.ofNat 16 (page * 0x100) + BitVec.ofNat 16 i).toNat = page * 0x100 + i := by
    rw [← BitVec.ofNat_add, BitVec.toNat_ofNat]
    omega
  have index : storageIndex (BitVec.ofNat 16 (page * 0x100) + BitVec.ofNat 16 i).toNat = 0x2000 + i % 8 := by
    rw [address, storageIndex, if_neg (by omega), if_pos (by omega)]
    omega
  have number : BitVec.ofNat 3 (0x2000 + i % 8 - 0x2000) = BitVec.ofNat 3 i := by
    apply BitVec.eq_of_toNat_eq
    rw [BitVec.toNat_ofNat, BitVec.toNat_ofNat]
    omega
  rw [s.memRead_register (by omega) (by omega), index, number]

/-- The PPU after reads of its registers 0, 1, 2, …, n - 1, mod 8. -/
def Ppu.readRegisters : Nat → Ppu → Ppu
  | 0, u => u
  | n + 1, u => ((Ppu.readRegisters n u).regRead (BitVec.ofNat 3 n)).2

/-- Register n mod 8 is the one numbered r. -/
theorem ofNat_eq_register_iff (n : Nat) (r : BitVec 3) : BitVec.ofNat 3 n = r ↔ n % 8 = r.toNat := by
  rw [← BitVec.toNat_inj, BitVec.toNat_ofNat]

/-- The reads clear vblank and w at PPUSTATUS, and move v and fill the buffer at every PPUDATA, one read in eight (R543,
R550, R552). -/
theorem Ppu.readRegisters_eq (n : Nat) (u : Ppu) :
    ∃ buffer, (n ≤ 7 → buffer = u.readBuffer) ∧
      Ppu.readRegisters n u =
        { u with
          vblank := decide (n ≤ 2) && u.vblank, w := decide (n ≤ 2) && u.w, readBuffer := buffer
          v := u.v + BitVec.ofNat 15 (n / 8) * if u.ctrl.getLsbD 2 then 32 else 1 } := by
  induction n with
  | zero => exact ⟨u.readBuffer, fun _ => rfl, by simp [Ppu.readRegisters]⟩
  | succ n ih =>
    obtain ⟨buffer, early, ih⟩ := ih
    rw [Ppu.readRegisters, ih]
    by_cases status : n % 8 = 2
    · have late : ¬ n + 1 ≤ 2 := by omega
      have same : (n + 1) / 8 = n / 8 := by omega
      rw [(ofNat_eq_register_iff n 2).mpr status, decide_eq_false late, same]
      exact ⟨buffer, fun h => early (Nat.le_of_succ_le h), rfl⟩
    by_cases data : n % 8 = 7
    · have late : ¬ n + 1 ≤ 2 := by omega
      have late' : ¬ n ≤ 2 := by omega
      have next : (n + 1) / 8 = n / 8 + 1 := by omega
      have moved : ∀ d : BitVec 15,
          u.v + BitVec.ofNat 15 (n / 8) * d + d = u.v + BitVec.ofNat 15 (n / 8 + 1) * d := fun d => by
        rw [BitVec.ofNat_add, BitVec.add_mul, BitVec.one_mul, BitVec.add_assoc]
      rw [(ofNat_eq_register_iff n 7).mpr data, decide_eq_false late, decide_eq_false late', next, ← moved]
      exact ⟨_, fun h => by omega, Ppu.dataRead_state _⟩
    · have same : (n + 1) / 8 = n / 8 := by omega
      have still : n + 1 ≤ 2 ↔ n ≤ 2 := by omega
      rw [Ppu.regRead_state _ (mt (ofNat_eq_register_iff n 2).mp status) (mt (ofNat_eq_register_iff n 7).mp data), same]
      simp only [still]
      exact ⟨buffer, fun h => early (Nat.le_of_succ_le h), rfl⟩

section

variable {s : State} {page : Nat} (low : 0x20 ≤ page) (high : page < 0x40)
  (source : s.dmaSrc = BitVec.ofNat 16 (page * 0x100)) {n i : Nat}

include low high source

/-- The transfer's reads of such a page are reads of the registers in turn. -/
theorem State.dmaReads_registerPage (hn : n ≤ 256) :
    State.dmaReads n s = { s with ppu := Ppu.readRegisters n s.ppu } := by
  induction n with
  | zero => rfl
  | succ n ih =>
    rw [State.dmaReads, ih (Nat.le_of_succ_le hn), source, State.memRead_registerPage _ low high hn]
    rfl

/-- The transfer from such a page clears vblank and w, and moves v by the 32 reads of PPUDATA (R543, R552). -/
theorem State.dmaTransfer_registerPage :
    s.dmaTransfer =
      { s with
        dmaPending := false, cycles := s.cycles + s.params.dmaCycles
        ppu := { s.ppu with
          oam := s.dmaTransfer.ppu.oam, vblank := false, w := false, readBuffer := s.dmaTransfer.ppu.readBuffer
          v := s.ppu.v + if s.ppu.ctrl.getLsbD 2 then 0x400 else 0x20 } } := by
  have reads := s.dmaTransfer_eq_dmaReads
  have registers := State.dmaReads_registerPage (s := { s with dmaPending := false }) low high source (Nat.le_refl 256)
  obtain ⟨buffer, -, final⟩ := s.ppu.readRegisters_eq 256
  have moved : (BitVec.ofNat 15 (256 / 8) * if s.ppu.ctrl.getLsbD 2 then 32 else 1) =
      if s.ppu.ctrl.getLsbD 2 then 0x400 else 0x20 := by
    split <;> rfl
  rw [registers, final, moved] at reads
  generalize s.dmaTransfer = t at reads ⊢
  have filled : t.ppu.readBuffer = buffer := congrArg (fun t : State => t.ppu.readBuffer) reads
  rw [filled]
  exact reads

/-- Byte i of such a page is read from register i mod 8, after the reads before it. -/
theorem State.dmaValue_registerPage (hi : i < 256) :
    ∃ buffer oam, (i ≤ 7 → buffer = s.ppu.readBuffer) ∧ oam = (State.dmaCopy i s).ppu.oam ∧
      s.dmaValue i =
        (Ppu.regRead
          { s.ppu with
            oam := oam
            vblank := decide (i ≤ 2) && s.ppu.vblank, w := decide (i ≤ 2) && s.ppu.w, readBuffer := buffer
            v := s.ppu.v + BitVec.ofNat 15 (i / 8) * if s.ppu.ctrl.getLsbD 2 then 32 else 1 }
          (BitVec.ofNat 3 i)).1 := by
  obtain ⟨buffer, early, registers⟩ := s.ppu.readRegisters_eq i
  refine ⟨buffer, _, early, rfl, ?_⟩
  rw [State.dmaValue, source, State.memRead_registerPage _ low high hi, State.dmaCopy_ppu,
    State.dmaReads_registerPage low high source (Nat.le_of_lt hi)]
  simp only [registers]

/-- Every eighth byte is PPUSTATUS, with vblank in the first of them only (R543). -/
theorem State.dmaValue_status (hi : i < 256) (status : i % 8 = 2) :
    s.dmaValue i = (Ppu.regRead { s.ppu with vblank := decide (i ≤ 2) && s.ppu.vblank } 2).1 := by
  obtain ⟨buffer, oam, -, -, value⟩ := State.dmaValue_registerPage low high source hi
  rw [value, (ofNat_eq_register_iff i 2).mpr status]
  rfl

/-- Byte 7 is what a single read of PPUDATA gives: v and the buffer are still what they were (R550). -/
theorem State.dmaValue_data : s.dmaValue 7 = (s.ppu.regRead 7).1 := by
  obtain ⟨buffer, oam, early, -, value⟩ := State.dmaValue_registerPage low high source (i := 7) (by decide)
  have unmoved : s.ppu.v + BitVec.ofNat 15 (7 / 8) * (if s.ppu.ctrl.getLsbD 2 then 32 else 1) = s.ppu.v := by
    rw [show BitVec.ofNat 15 (7 / 8) = 0#15 from rfl, BitVec.zero_mul, BitVec.add_zero]
  rw [value, unmoved, early (Nat.le_refl 7)]
  change (Ppu.dataRead _).1 = s.ppu.dataRead.1
  rw [Ppu.dataRead_fst, Ppu.dataRead_fst]
  rfl

/-- Every other byte is the latch: OAMDATA reads the slot of byte 0, where the transfer put the latch (R507, R543). -/
theorem State.dmaValue_latch (hi : i < 256) (status : i % 8 ≠ 2) (data : i % 8 ≠ 7) :
    s.dmaValue i = s.ppu.ioLatch := by
  have latch : ∀ j < 256, j % 8 ≠ 2 → j % 8 ≠ 4 → j % 8 ≠ 7 → s.dmaValue j = s.ppu.ioLatch := by
    intro j hj status oam data
    obtain ⟨_, _, -, -, value⟩ := State.dmaValue_registerPage low high source hj
    rw [value, Ppu.regRead_latch _ (mt (ofNat_eq_register_iff j 2).mp status) (mt (ofNat_eq_register_iff j 4).mp oam)
      (mt (ofNat_eq_register_iff j 7).mp data)]
  by_cases oamData : i % 8 = 4
  · obtain ⟨_, oam, -, copied, value⟩ := State.dmaValue_registerPage low high source hi
    have slot : s.dmaSlot 0 = s.ppu.oamAddr.toNat := Nat.mod_eq_of_lt s.ppu.oamAddr.isLt
    have first := State.dmaCopy_read_slot s (i := 0) (n := i) (by omega) (Nat.le_of_lt hi)
    rw [slot, ← copied, latch 0 (by decide) (by decide) (by decide) (by decide)] at first
    rw [value, (ofNat_eq_register_iff i 4).mpr oamData]
    exact first
  · exact latch i hi status oamData data

end

end Sys2Proof.Machine
end

section
/-! SUPPORT. The DMA transfer from page $40, where the controller ports are (spec/20_memory.md R95), and the statement
about every page. -/

namespace Sys2Proof.Machine

section

variable {s : State} (source : s.dmaSrc = 0x4000) {n i : Nat}

include source

/-- Address i of page $40 is stored where it stands (R90). -/
theorem State.storageIndex_portPage (hi : i < 256) :
    storageIndex (s.dmaSrc + BitVec.ofNat 16 i).toNat = 0x4000 + i := by
  have address : (s.dmaSrc + BitVec.ofNat 16 i).toNat = 0x4000 + i := by
    rw [source]
    bv_omega
  rw [address, storageIndex, if_neg (by omega), if_neg (by omega)]

/-- Before the first port the reads have no effect. -/
theorem State.dmaReads_before_ports (hn : n ≤ 0x16) : State.dmaReads n s = s := by
  refine State.dmaReads_of_no_effect s fun i hi t => ?_
  have index := State.storageIndex_portPage source (i := i) (by omega)
  rw [t.memRead_cell (by omega)]

/-- The reads change the controllers' history only (R95). -/
theorem State.dmaReads_portPage (hn : n ≤ 256) : ∃ log, State.dmaReads n s = { s with controllerLog := log } := by
  induction n with
  | zero => exact ⟨s.controllerLog, rfl⟩
  | succ n ih =>
    obtain ⟨log, ih⟩ := ih (Nat.le_of_succ_le hn)
    have index := State.storageIndex_portPage source hn
    rw [State.dmaReads, ih]
    by_cases port0 : n = 0x16
    · exact ⟨_, by rw [State.memRead_port0 _ (by omega)]⟩
    by_cases port1 : n = 0x17
    · exact ⟨_, by rw [State.memRead_port1 _ (by omega)]⟩
    · exact ⟨log, by rw [State.memRead_cell _ (by omega)]⟩

/-- The transfer from page $40 changes OAM and the controllers' history (R507, R95). -/
theorem State.dmaTransfer_portPage :
    s.dmaTransfer =
      { s with
        dmaPending := false, cycles := s.cycles + s.params.dmaCycles, controllerLog := s.dmaTransfer.controllerLog
        ppu := { s.ppu with oam := s.dmaTransfer.ppu.oam } } := by
  have reads := s.dmaTransfer_eq_dmaReads
  obtain ⟨log, final⟩ := State.dmaReads_portPage (s := { s with dmaPending := false }) source (Nat.le_refl 256)
  rw [final] at reads
  generalize s.dmaTransfer = t at reads ⊢
  have logged : t.controllerLog = log := congrArg State.controllerLog reads
  rw [logged]
  exact reads

theorem State.dmaValue_port0 : s.dmaValue 0x16 = Config.readController 0 s.controllerLog := by
  have index := State.storageIndex_portPage source (i := 0x16) (by decide)
  rw [State.dmaValue, State.memRead_port0 _ index, State.dmaCopy_controllerLog,
    State.dmaReads_before_ports source (Nat.le_refl 0x16)]

theorem State.dmaValue_port1 : ∃ history, s.dmaValue 0x17 = Config.readController 1 history := by
  have index := State.storageIndex_portPage source (i := 0x17) (by decide)
  exact ⟨(State.dmaCopy 0x17 s).controllerLog, by rw [State.dmaValue, State.memRead_port1 _ index]⟩

theorem State.dmaValue_portPage_cell (hi : i < 256) (port0 : i ≠ 0x16) (port1 : i ≠ 0x17) :
    s.dmaValue i = s.mem.read (0x4000 + i) := by
  have index := State.storageIndex_portPage source hi
  rw [State.dmaValue, State.memRead_cell _ (by omega), index, State.dmaCopy_mem]

end

section

variable {s : State} {n i : Nat}

/-- The transfer from storage changes OAM only (R507). -/
theorem State.dmaTransfer_storage (storage : ∀ i < 256, fetchesStorage (s.dmaSrc + BitVec.ofNat 16 i) = true) :
    s.dmaTransfer =
      { s with
        dmaPending := false, cycles := s.cycles + s.params.dmaCycles
        ppu := { s.ppu with oam := s.dmaTransfer.ppu.oam } } := by
  have quiet : State.dmaReads 256 { s with dmaPending := false } = { s with dmaPending := false } :=
    State.dmaReads_of_no_effect _ fun i hi t => by rw [t.memRead_of_fetchesStorage (storage i hi)]
  have reads := s.dmaTransfer_eq_dmaReads
  rw [quiet] at reads
  exact reads

/-- A byte from storage is the cell's (R507). -/
theorem State.dmaValue_storage (storage : fetchesStorage (s.dmaSrc + BitVec.ofNat 16 i) = true) :
    s.dmaValue i = s.mem.read (redirect (s.dmaSrc + BitVec.ofNat 16 i)).toNat := by
  rw [State.dmaValue, State.memRead_of_fetchesStorage _ storage, State.dmaCopy_mem]

end

/-- Settles O22: the transfer is 256 reads in turn, each byte kept in its own slot; then by page what the reads give and
change. -/
theorem dmaCopiesOnePage : Obligations.DmaCopiesOnePage := by
  intro s src slot t copied
  have bytes : ∀ i < 256, copied i = State.dmaValue { s with dmaPending := false } i := fun i hi =>
    s.dmaTransfer_read_slot hi
  refine ⟨⟨fun i => State.dmaCopy i { s with dmaPending := false }, rfl, fun i hi => ⟨?step, bytes i hi⟩,
    s.dmaTransfer_eq_dmaCopy⟩, ?pointer, fun storage => ⟨State.dmaTransfer_storage storage, fun i hi => ?cell⟩,
    fun page low high source => ?registers, fun source => ?ports⟩
  case step => exact State.dmaCopy_succ_eq { s with dmaPending := false } i
  case pointer =>
    change s.dmaTransfer.ppu.oamAddr = _
    rw [State.dmaTransfer, State.addCycles_ppu, State.dmaCopy_oamAddr]
  case cell => exact (bytes i hi).trans (State.dmaValue_storage (storage i hi))
  case registers =>
    have status := fun i => State.dmaValue_status (s := { s with dmaPending := false }) (i := i) low high source
    have data := State.dmaValue_data (s := { s with dmaPending := false }) low high source
    have latch := fun i => State.dmaValue_latch (s := { s with dmaPending := false }) (i := i) low high source
    refine ⟨State.dmaTransfer_registerPage low high source, ?_, (bytes 7 (by decide)).trans data,
      fun i hi => ⟨fun noStatus noData => (bytes i hi).trans (latch i hi noStatus noData), fun isStatus late => ?_⟩⟩
    · rw [bytes 2 (by decide), status 2 (by decide) rfl, decide_eq_true (Nat.le_refl 2), Bool.true_and]
    · rw [bytes i hi, status i hi isStatus, decide_eq_false (by omega), Bool.false_and]
  case ports =>
    obtain ⟨history, port1⟩ := State.dmaValue_port1 (s := { s with dmaPending := false }) source
    exact ⟨State.dmaTransfer_portPage source,
      (bytes 0x16 (by decide)).trans (State.dmaValue_port0 (s := { s with dmaPending := false }) source),
      ⟨history, (bytes 0x17 (by decide)).trans port1⟩,
      fun i hi port0 port1 =>
        (bytes i hi).trans (State.dmaValue_portPage_cell (s := { s with dmaPending := false }) source hi port0 port1)⟩

end Sys2Proof.Machine
end

section
/-! SUPPORT. The PPU's registers on numbers and bits (spec/60_exceptions.md R540–R552). -/

namespace Sys2Proof.Machine

/-- The address of a data access is v mod $4000 (R550, R551). -/
theorem Ppu.dataAddr_eq (u : Ppu) : u.dataAddr = BitVec.ofNat 16 (u.v.toNat % 0x4000) := by
  have bound := u.v.isLt
  have wide : (u.v.setWidth 16).toNat = u.v.toNat := BitVec.toNat_setWidth_of_le (by decide)
  have masked : u.dataAddr.toNat = (u.v.setWidth 16).toNat % 0x4000 := ppuAddress_toNat _
  apply BitVec.eq_of_toNat_eq
  rw [masked, wide, BitVec.toNat_ofNat]
  omega

/-- A data access moves v by 1 or 32, mod $8000 (R552). -/
theorem Ppu.nextV_eq (u : Ppu) :
    (u.v + if u.ctrl.getLsbD 2 then 32 else 1) = BitVec.ofNat 15 (u.v.toNat + if u.ctrl.getLsbD 2 then 32 else 1) := by
  rw [BitVec.ofNat_add, BitVec.ofNat_toNat, BitVec.setWidth_eq]
  split <;> rfl

/-- PPUSTATUS is the low bits of the latch below the three flags (R542). -/
theorem Ppu.status_getLsbD (u : Ppu) (i : Nat) :
    u.status.getLsbD i =
      if i < 5 then (u.ioLatch.extractLsb' 0 5).getLsbD i
      else (BitVec.ofBool u.vblank ++ BitVec.ofBool u.sprite0Hit ++ BitVec.ofBool u.spriteOverflow).getLsbD (i - 5) :=
  BitVec.getLsbD_append

/-- PPUSTATUS bit by bit (R542). -/
theorem Ppu.status_bits (u : Ppu) :
    (List.range 8).map u.status.getLsbD =
      [u.ioLatch.getLsbD 0, u.ioLatch.getLsbD 1, u.ioLatch.getLsbD 2, u.ioLatch.getLsbD 3, u.ioLatch.getLsbD 4,
        u.spriteOverflow, u.sprite0Hit, u.vblank] := by
  rw [funext u.status_getLsbD]
  simp only [BitVec.getLsbD_append, BitVec.getLsbD_extractLsb', BitVec.getLsbD_ofBool]
  simp [List.range_succ]

/-- A read of PPUDATA below the palette gives the old buffer and refills it (R550). -/
theorem Ppu.dataRead_buffered (u : Ppu) (h : u.v.toNat % 0x4000 < 0x3F00) :
    u.dataRead =
      (u.readBuffer,
        { u with
          readBuffer := u.memRead (BitVec.ofNat 16 (u.v.toNat % 0x4000))
          v := BitVec.ofNat 15 (u.v.toNat + if u.ctrl.getLsbD 2 then 32 else 1) }) := by
  have below : ¬ 0x3F00 ≤ u.dataAddr := by
    rw [u.dataAddr_eq]
    bv_omega
  rw [Ppu.dataRead, if_neg below, u.dataAddr_eq, ← u.nextV_eq]
  rfl

/-- A read of PPUDATA in the palette range gives the cell, and fills the buffer from the name table below (R550). -/
theorem Ppu.dataRead_palette (u : Ppu) (h : 0x3F00 ≤ u.v.toNat % 0x4000) :
    u.dataRead =
      (u.memRead (BitVec.ofNat 16 (u.v.toNat % 0x4000)),
        { u with
          readBuffer := u.memRead (BitVec.ofNat 16 (u.v.toNat % 0x4000) - 0x1000)
          v := BitVec.ofNat 15 (u.v.toNat + if u.ctrl.getLsbD 2 then 32 else 1) }) := by
  have palette : 0x3F00 ≤ u.dataAddr := by
    rw [u.dataAddr_eq]
    bv_omega
  rw [Ppu.dataRead, if_pos palette, u.dataAddr_eq, ← u.nextV_eq]
  rfl

/-- Settles O49: PPUSTATUS, OAMDATA, PPUDATA on both sides of the palette, and the latch of the write-only registers. -/
theorem ppuRegisterReads : Obligations.PpuRegisterReads := by
  intro u a cell next
  refine ⟨rfl, u.status_bits, rfl, u.dataRead_buffered, u.dataRead_palette, fun n writeOnly => ?_,
    fun n => u.regRead_ioLatch n, fun b => rfl⟩
  refine Ppu.regRead_latch u ?_ ?_ ?_ <;> rintro rfl <;> exact absurd writeOnly (by decide)

/-- The bits of a video address with a field replaced (R545–R547). -/
theorem setBits_getLsbD (t : BitVec 15) (start len : Nat) (f : BitVec 15) (h : start + len ≤ 15) :
    (setBits t start len f).getLsbD =
      fun i => if start ≤ i ∧ i < start + len then f.getLsbD (i - start) else t.getLsbD i := by
  funext i
  by_cases hi : i < 15
  · exact getLsbD_setBits t start len f hi
  · rw [if_neg (by omega), BitVec.getLsbD_of_ge _ _ (by omega), BitVec.getLsbD_of_ge _ _ (by omega)]

/-- A write of PPUDATA stores at v mod $4000 and moves v (R551, R552). -/
theorem Ppu.dataWrite_eq (u : Ppu) (b : Byte) :
    u.dataWrite b =
      { u with
        vram := u.vram.write (ppuRedirect u.mirroring (BitVec.ofNat 16 (u.v.toNat % 0x4000))).toNat b
        v := BitVec.ofNat 15 (u.v.toNat + if u.ctrl.getLsbD 2 then 32 else 1) } := by
  rw [Ppu.dataWrite, u.dataAddr_eq, ← u.nextV_eq]
  rfl

/-- A read of PPUDATA moves v on either side of the palette (R552). -/
theorem Ppu.dataRead_v (u : Ppu) :
    u.dataRead.2.v = BitVec.ofNat 15 (u.v.toNat + if u.ctrl.getLsbD 2 then 32 else 1) := by
  rw [u.dataRead_state, ← u.nextV_eq]

/-- Settles O50: each register's own effect; the new t of four of them, and the two halves by the toggle, bit by bit. -/
theorem ppuRegisterWrites : Obligations.PpuRegisterWrites := by
  intro u b l at' bits old
  have clear : u.w = false → ¬ u.w = true := fun first => by simp [first]
  refine ⟨⟨_, rfl, ?ctrl⟩, rfl, rfl, rfl, rfl, fun first => ⟨_, _, if_neg (clear first), ?fineX, ?scrollFirst⟩,
    fun second => ⟨_, if_pos second, ?scrollSecond⟩, fun first => ⟨_, if_neg (clear first), ?addressFirst⟩,
    fun second => ⟨_, if_pos second, ?addressSecond⟩, Ppu.dataWrite_eq l b, Ppu.dataRead_v u, rfl⟩
  case fineX => simp [List.range_succ, at']
  all_goals
    simp only [bits, setBits_getLsbD, Nat.reduceAdd, Nat.reduceLeDiff, BitVec.getLsbD_setWidth,
      BitVec.getLsbD_ushiftRight]
    rfl

/-- The address two writes of PPUADDR leave: six bits of the first byte and the second (R547). -/
theorem addressPair_toNat (t : BitVec 15) (h l : Byte) :
    (setBits (setBits (setBits t 8 6 (h.setWidth 15)) 14 1 0) 0 8 (l.setWidth 15)).toNat =
      h.toNat % 64 * 256 + l.toNat := by
  have number : h.toNat % 64 * 256 + l.toNat = 2 ^ 8 * (h.toNat % 2 ^ 6) + l.toNat := by omega
  rw [number]
  refine Nat.eq_of_testBit_eq fun i => ?_
  rw [Nat.testBit_two_pow_mul_add _ l.isLt, Nat.testBit_mod_two_pow]
  change (setBits _ 0 8 _).getLsbD i = if i < 8 then l.getLsbD i else decide (i - 8 < 6) && h.getLsbD (i - 8)
  simp only [setBits_getLsbD, Nat.reduceAdd, Nat.reduceLeDiff, BitVec.getLsbD_setWidth]
  by_cases low : i < 8
  · simp [low, show i < 15 by omega]
  by_cases middle : i < 14
  · have inField : i - 8 < 6 := by omega
    simp [low, middle, inField, show 8 ≤ i by omega, show ¬ 14 ≤ i by omega, show i - 8 < 15 by omega]
  · simpa [low, middle, show ¬ i - 8 < 6 by omega] using BitVec.getLsbD_of_ge t i

/-- Two writes of PPUADDR with the toggle clear set t and v and leave the toggle clear (R547, R548). -/
theorem Ppu.regWrite_addressPair (u : Ppu) (h l : Byte) (clear : u.w = false) :
    ∃ address, address.toNat = h.toNat % 64 * 256 + l.toNat ∧
      (u.regWrite 6 h).regWrite 6 l = { u with ioLatch := l, t := address, v := address, w := false } := by
  have first : u.regWrite 6 h =
      { u with ioLatch := h, t := setBits (setBits u.t 8 6 (h.setWidth 15)) 14 1 0, w := true } :=
    if_neg (by simp [clear])
  rw [first]
  exact ⟨_, addressPair_toNat u.t h l, rfl⟩

/-- STA to a PPU register writes A to it (R204, R96). -/
theorem exec_staAbs_register (s : State) {w : Addr} (low : 0x2000 ≤ w.toNat) (high : w.toNat < 0x2008) :
    ∃ t, exec (.staAbs w) s = .next t ∧ t.ppu = s.ppu.regWrite (BitVec.ofNat 3 (w.toNat - 0x2000)) s.a := by
  have index : storageIndex w.toNat = w.toNat := by
    rw [storageIndex, if_neg (by omega), if_pos (by omega)]
    omega
  have stored : (s.memWrite w s.a).ppu = s.ppu.regWrite (BitVec.ofNat 3 (w.toNat - 0x2000)) s.a := by
    rw [s.memWrite_register s.a (by omega) (by omega), index]
  exact ⟨(s.memWrite w s.a).addCycles 4, rfl, stored⟩

/-- Settles O51: three stores to the registers; the address the first two leave is below $4000. -/
theorem addressWritePairThenData : Obligations.AddressWritePairThenData := by
  intro s h l b clear
  obtain ⟨t, runT, ppuT⟩ := exec_staAbs_register { s with a := h } (w := 0x2006) (by decide) (by decide)
  obtain ⟨u, runU, ppuU⟩ := exec_staAbs_register { t with a := l } (w := 0x2006) (by decide) (by decide)
  obtain ⟨x, runX, ppuX⟩ := exec_staAbs_register { u with a := b } (w := 0x2007) (by decide) (by decide)
  obtain ⟨address, number, pair⟩ := s.ppu.regWrite_addressPair h l clear
  have afterPair : u.ppu = { s.ppu with ioLatch := l, t := address, v := address, w := false } := by
    rw [ppuU, ← pair]
    exact congrArg (Ppu.regWrite · 6 l) ppuT
  have afterData : x.ppu = Ppu.dataWrite { u.ppu with ioLatch := b } b := ppuX
  have below : address.toNat < 0x4000 := by have := l.isLt; omega
  rw [Ppu.dataWrite_eq, ← Ppu.nextV_eq, afterPair] at afterData
  refine ⟨t, u, x, runT, runU, runX, ?_, ?_, ?_, ?_, ?_, fun y => ?_⟩
  · rw [afterPair, number]
  · rw [afterPair]
  · rw [afterPair]
  · rw [afterData, afterPair, Nat.mod_eq_of_lt below]
    exact Mem.read_write_same ..
  · rw [afterData, afterPair]
  · rw [y.memRead_register (by decide) (by decide)]
    rfl

end Sys2Proof.Machine
end

section
/-! SUPPORT. The load convention of log 8: bytes placed in storage stand there, and the instruction they encode is the
one the next step runs (spec/20_memory.md R90, R114, spec/30_encoding.md R150). -/

namespace Sys2Proof.Machine

theorem add_ofNat_succ (a : Addr) (n : Nat) : a + BitVec.ofNat 16 (n + 1) = a + 1 + BitVec.ofNat 16 n := by
  rw [BitVec.add_assoc, Nat.add_comm, BitVec.ofNat_add]
  rfl

/-- What reads storage lies in RAM or above the PPU's registers (R91). -/
theorem storageIndex_of_fetchesStorage {a : Addr} (h : fetchesStorage a = true) :
    storageIndex a.toNat < 0x2000 ∨ 0x4000 ≤ storageIndex a.toNat := by
  rw [fetchesStorage, readClass_redirect, readClassAt] at h
  by_contra hc
  rw [if_neg (by omega), if_pos (by omega)] at h
  cases h

/-- Two addresses that read storage and are less than the 2 KiB of RAM apart are stored in different cells (R90). -/
theorem redirect_add_ne {a : Addr} {k : Nat} (low : 0 < k) (high : k < 0x0800) (ha : fetchesStorage a = true)
    (hk : fetchesStorage (a + BitVec.ofNat 16 k) = true) :
    (redirect (a + BitVec.ofNat 16 k)).toNat ≠ (redirect a).toNat := by
  have indexA := storageIndex_of_fetchesStorage ha
  have indexK := storageIndex_of_fetchesStorage hk
  have sum : (a + BitVec.ofNat 16 k).toNat = (a.toNat + k) % 0x10000 := by
    rw [BitVec.toNat_add, BitVec.toNat_ofNat, Nat.add_mod_mod]
  rw [redirect_toNat, redirect_toNat]
  rw [sum] at indexK ⊢
  have bound := a.isLt
  unfold storageIndex at *
  split_ifs at * <;> omega

theorem State.place_cons (s : State) (a : Addr) (b : Byte) (bs : List Byte) :
    s.place a (b :: bs) = State.place { s with mem := s.mem.write (redirect a).toNat b } (a + 1) bs := rfl

/-- Placing bytes changes memory only. -/
theorem State.place_eq (s : State) (a : Addr) (bs : List Byte) :
    s.place a bs = { s with mem := (s.place a bs).mem } := by
  induction bs generalizing s a with
  | nil => rfl
  | cons b bs ih => rw [State.place_cons, ih]

/-- Placing bytes leaves the cells they are not stored in. -/
theorem State.place_read_other {s : State} {a : Addr} {bs : List Byte} {c : Nat}
    (h : ∀ n < bs.length, (redirect (a + BitVec.ofNat 16 n)).toNat ≠ c) :
    (s.place a bs).mem.read c = s.mem.read c := by
  induction bs generalizing s a with
  | nil => rfl
  | cons b bs ih =>
    have head : (redirect a).toNat ≠ c := by simpa using h 0 (Nat.succ_pos _)
    rw [State.place_cons, ih fun n hn => add_ofNat_succ a n ▸ h (n + 1) (Nat.succ_lt_succ hn)]
    exact Mem.read_write_other s.mem b head.symm

/-- Bytes placed in storage stand there: no later one overwrites an earlier one, as they are less than the RAM's mirror
apart (R90). -/
theorem State.place_stores {s : State} {a : Addr} {bs : List Byte} (short : bs.length < 0x0800)
    (storage : ∀ n < bs.length, fetchesStorage (a + BitVec.ofNat 16 n) = true) : (s.place a bs).Stores a bs := by
  induction bs generalizing s a with
  | nil => exact fun n hn => absurd hn (Nat.not_lt_zero n)
  | cons b bs ih =>
    rw [List.length_cons] at short
    have tail : ∀ n < bs.length, fetchesStorage (a + 1 + BitVec.ofNat 16 n) = true := fun n hn =>
      add_ofNat_succ a n ▸ storage (n + 1) (Nat.succ_lt_succ hn)
    have head : fetchesStorage a = true := by simpa using storage 0 (Nat.succ_pos _)
    have apart : ∀ n < bs.length, (redirect (a + 1 + BitVec.ofNat 16 n)).toNat ≠ (redirect a).toNat := fun n hn =>
      add_ofNat_succ a n ▸
        redirect_add_ne (Nat.succ_pos n) (by omega) head (storage (n + 1) (Nat.succ_lt_succ hn))
    intro n hn
    refine ⟨storage n hn, ?_⟩
    rw [State.place_cons]
    cases n with
    | zero =>
      rw [BitVec.add_zero, State.place_read_other apart]
      exact Mem.read_write_same ..
    | succ n =>
      rw [add_ofNat_succ, (ih (by omega) tail n (Nat.lt_of_succ_lt_succ hn)).2]
      rfl

/-- What stands in storage stands there in part. -/
theorem State.Stores.of_append {s : State} {a : Addr} {bytes rest : List Byte} (h : s.Stores a (bytes ++ rest)) :
    s.Stores a bytes := fun n hn => by
  obtain ⟨storage, byte⟩ := h n (by rw [List.length_append]; omega)
  exact ⟨storage, by rw [byte, List.getD_append _ _ _ _ hn]⟩

/-- Where a program is placed (log 8): at PC, or at $0000 where PC points into device registers. -/
def State.placeAddr (s : State) : Addr := if placeable s.pc then s.pc else 0

theorem State.placeAddr_fetchesStorage (s : State) {n : Nat} (hn : n < 3) :
    fetchesStorage (s.placeAddr + BitVec.ofNat 16 n) = true := by
  have spot : placeable s.placeAddr = true := by
    unfold State.placeAddr
    split
    · assumption
    · decide
  obtain ⟨⟨byte0, byte1⟩, byte2⟩ := by simpa only [placeable, Bool.and_eq_true] using spot
  match n, hn with
  | 0, _ => rwa [BitVec.add_zero]
  | 1, _ => exact byte1
  | 2, _ => exact byte2

/-- The fields of a state with a program placed (log 8). -/
theorem State.placeProgram_eq (s : State) (bytes : List Byte) :
    s.placeProgram bytes =
      { s with
        pc := s.placeAddr, stop := false, jammed := false, refused := false
        nmiPending := false, irqLine := false, dmaPending := false
        master := max s.master (s.cycles + 1), mem := (s.placeProgram bytes).mem } :=
  State.place_eq ..

/-- The bytes of a placed table word stand in storage from PC on. -/
theorem State.withFetchWord_stores (s : State) (nbits w : Nat) :
    (s.withFetchWord nbits w).Stores (s.withFetchWord nbits w).pc (tableBytes nbits w) := by
  rw [State.withFetchWord, congrArg State.pc (s.placeProgram_eq _)]
  exact State.place_stores (by decide : 3 < 0x0800) fun n hn => s.placeAddr_fetchesStorage hn

/-- Decoding a table word takes an instruction's encoding off its three bytes (R140). -/
theorem tableBytes_eq_encode_append {nbits w : Nat} {i : Instr} (h : decodeTableWord nbits w = some i) :
    ∃ rest, tableBytes nbits w = encode i ++ rest := by
  unfold decodeTableWord at h
  split at h
  next j rest decoded =>
    cases h
    exact ⟨rest, decodedBytesAreTheEncoding _ _ _ decoded⟩
  next => cases h

/-- Settles O7: the placed bytes begin with the instruction's encoding, which stands in storage from PC on, so the
undisturbed step runs it (O6). -/
theorem placedInstructionRunsNext : Obligations.PlacedInstructionRunsNext := by
  intro s nbits w i h p
  obtain ⟨rest, bytes⟩ := tableBytes_eq_encode_append h
  have stored : p.Stores p.pc (encode i) := State.Stores.of_append (bytes ▸ s.withFetchWord_stores nbits w)
  have placed := s.placeProgram_eq (tableBytes nbits w)
  have due : p.cycles < p.master := by
    rw [show p = _ from placed]
    exact (Nat.lt_succ_self s.cycles).trans_le (le_max_right ..)
  rw [← encode_length i]
  exact (stepRunsDecodedInstruction p i due (congrArg State.stop placed) (congrArg State.jammed placed)
    (congrArg State.refused placed) (congrArg State.nmiPending placed) (congrArg State.irqLine placed)
    (congrArg State.dmaPending placed) rfl).1 stored

end Sys2Proof.Machine
end

section
/-! SUPPORT. Load (spec/70_reset_and_hazards.md R602–R605): what a block write leaves in memory, what the loaded state
is, and which files are loaded. -/

namespace Sys2Proof.Machine

/-- What a block write leaves: its bytes from its address on, and the cells outside as they were. -/
theorem Mem.read_writeBlock (m : Mem) (a : Nat) (bs : List Byte) (c : Nat) :
    (m.writeBlock a bs).read c = if a ≤ c ∧ c < a + bs.length then bs.getD (c - a) 0 else m.read c := by
  induction bs generalizing m a with
  | nil => simp [Mem.writeBlock, show ¬ (a ≤ c ∧ c < a) by omega]
  | cons b bs ih =>
    rw [Mem.writeBlock, ih, List.length_cons]
    rcases Nat.lt_trichotomy c a with below | rfl | above
    · rw [if_neg (by omega), if_neg (by omega), Mem.read_write_other m b (by omega)]
    · rw [if_neg (by omega), if_pos (by omega), Mem.read_write_same, Nat.sub_self, List.getD_cons_zero]
    · have later : c - a = c - (a + 1) + 1 := by omega
      rw [later, List.getD_cons_succ, Mem.read_write_other m b (by omega)]
      exact if_congr (by omega) rfl rfl

theorem Mem.read_writeBlock_inside (m : Mem) (a : Nat) {bs : List Byte} {i : Nat} (h : i < bs.length) :
    (m.writeBlock a bs).read (a + i) = bs.getD i 0 := by
  rw [Mem.read_writeBlock, if_pos (by omega), Nat.add_sub_cancel_left]

theorem Mem.read_writeBlock_outside (m : Mem) {a : Nat} {bs : List Byte} {c : Nat} (h : c < a ∨ a + bs.length ≤ c) :
    (m.writeBlock a bs).read c = m.read c := by
  rw [Mem.read_writeBlock, if_neg (by omega)]

/-- The sizes of a legal cartridge's images (R602). -/
theorem Cartridge.wellFormed_iff (c : Cartridge) :
    c.wellFormed = true ↔
      (c.prg.length = 16384 ∨ c.prg.length = 32768) ∧ (c.chr.length = 0 ∨ c.chr.length = 8192) := by
  simp only [Cartridge.wellFormed, Bool.and_eq_true, Bool.or_eq_true, beq_iff_eq]

/-- The program image fills $8000–$FFFF, a 16 KiB one twice (R602). -/
theorem programImage_length {prg : List Byte} (h : prg.length = 16384 ∨ prg.length = 32768) :
    (programImage prg).length = 32768 := by
  unfold programImage
  split
  · rw [List.length_append]; omega
  · omega

theorem programImage_getD {prg : List Byte} (h : prg.length = 16384 ∨ prg.length = 32768) {i : Nat} (hi : i < 32768) :
    (programImage prg).getD i 0 = prg.getD (i % prg.length) 0 := by
  unfold programImage
  split
  next half =>
    rcases Nat.lt_or_ge i prg.length with first | second
    · rw [List.getD_append _ _ _ _ first, Nat.mod_eq_of_lt first]
    · rw [List.getD_append_right _ _ _ _ second, Nat.mod_eq_sub_mod second, Nat.mod_eq_of_lt (by omega)]
  next => rw [Nat.mod_eq_of_lt (by omega)]

/-- Settles O56: the two images are block writes, and the record names everything else load writes. -/
theorem loadPlacesTheImages : Obligations.LoadPlacesTheImages := by
  intro c s legal t
  obtain ⟨prgSize, -⟩ := (Cartridge.wellFormed_iff c).mp legal
  have filled := programImage_length prgSize
  refine ⟨rfl, fun i hi => ?_, fun a ha => ?_, fun i hi => ?_, fun i hi => ?_⟩
  · exact (s.mem.read_writeBlock_inside _ (filled.symm ▸ hi)).trans (programImage_getD prgSize hi)
  · exact s.mem.read_writeBlock_outside (.inl ha)
  · have placed := s.ppu.vram.read_writeBlock_inside 0 hi
    rwa [Nat.zero_add] at placed
  · exact s.ppu.vram.read_writeBlock_outside (.inr (by omega))

/-- Loading a legal cartridge keeps the state well formed: both images fit, and the mapper range is legal. -/
theorem loadImage_wf {c : Cartridge} {s : State} (legal : c.wellFormed = true) (hs : s.wf = true) :
    (loadImage c s).wf = true := by
  obtain ⟨prgSize, chrSize⟩ := (Cartridge.wellFormed_iff c).mp legal
  obtain ⟨mem, vram, oam, position, -⟩ := s.wf_iff.mp hs
  have filled := programImage_length prgSize
  exact (State.wf_iff _).mpr
    ⟨Mem.wf_writeBlock _ _ (by omega) mem, Mem.wf_writeBlock _ _ (by omega) vram, oam, position, rfl⟩

/-- The header of a file by its bytes (R604). -/
def RomHeader.ofFile (file : List Byte) : RomHeader :=
  ⟨file.take 4, file.getD 4 0, file.getD 5 0, file.getD 6 0, file.getD 7 0⟩

/-- A file has a header exactly if it has 16 bytes (R604, R605). -/
theorem RomHeader.parse_eq (file : List Byte) :
    RomHeader.parse file = if 16 ≤ file.length then some (RomHeader.ofFile file) else none := by
  unfold RomHeader.parse
  split
  next b0 b1 b2 b3 p c f6 f7 rest =>
    have count : (b0 :: b1 :: b2 :: b3 :: p :: c :: f6 :: f7 :: rest).length = rest.length + 8 := rfl
    split
    · rw [if_neg (by omega)]
    · rw [if_pos (by omega)]
      rfl
  next short =>
    rw [if_neg]
    intro long
    match file, long with
    | b0 :: b1 :: b2 :: b3 :: p :: c :: f6 :: f7 :: rest, _ => exact short _ _ _ _ _ _ _ _ _ rfl

/-- A high nibble is 0 as a field and as a shifted byte. -/
theorem highNibble_eq_zero_iff (b : Byte) : b.extractLsb' 4 4 = 0 ↔ b >>> 4 = 0 := by
  revert b
  decide

/-- The mapper id is 0 exactly if both its nibbles are (R604). -/
theorem RomHeader.mapperId_eq_zero_iff (h : RomHeader) :
    h.mapperId = 0 ↔ h.effectiveFlags7 >>> 4 = 0 ∧ h.flags6 >>> 4 = 0 := by
  rw [← highNibble_eq_zero_iff, ← highNibble_eq_zero_iff, RomHeader.mapperId]
  generalize h.effectiveFlags7.extractLsb' 4 4 = high
  generalize h.flags6.extractLsb' 4 4 = low
  revert high low
  decide

/-- The conditions of R605 on a header and the length of its file. -/
def RomHeader.Accepted (h : RomHeader) (fileLength : Nat) : Prop :=
  h.magic = romMagic ∧ (h.effectiveFlags7 >>> 4 = 0 ∧ h.flags6 >>> 4 = 0) ∧ (h.prgUnits = 1 ∨ h.prgUnits = 2) ∧
    (h.chrUnits = 0 ∨ h.chrUnits = 1) ∧ h.fileBytes ≤ fileLength

/-- The checks of a load find no error exactly where R605 accepts the header. -/
theorem RomHeader.loadError_eq_none_iff (h : RomHeader) (fileLength : Nat) :
    h.loadError fileLength = none ↔ h.Accepted fileLength := by
  rw [RomHeader.Accepted, ← RomHeader.mapperId_eq_zero_iff]
  simp only [RomHeader.loadError, ite_eq_iff, reduceCtorEq, and_false, false_or, and_true, ne_eq, not_and_or, not_not,
    Nat.not_lt]

/-- A file is loaded where it has a header that R605 accepts. -/
theorem loadFile_of_accepted {file : List Byte} (s : State) (long : 16 ≤ file.length)
    (accepted : (RomHeader.ofFile file).Accepted file.length) :
    loadFile file s = .next (loadImage ((RomHeader.ofFile file).cartridge file) s) := by
  rw [loadFile, RomHeader.parse_eq, if_pos long]
  simp only [(RomHeader.loadError_eq_none_iff _ _).mpr accepted]

/-- Every other file is a fault (R605). -/
theorem loadFile_of_not_accepted {file : List Byte} (s : State)
    (h : 16 ≤ file.length → ¬ (RomHeader.ofFile file).Accepted file.length) : ∃ e, loadFile file s = .fault e := by
  rw [loadFile, RomHeader.parse_eq]
  by_cases long : 16 ≤ file.length
  · obtain ⟨e, error⟩ := Option.ne_none_iff_exists'.mp (mt (RomHeader.loadError_eq_none_iff _ _).mp (h long))
    exact ⟨e, by simp only [if_pos long, error]⟩
  · exact ⟨.malformedHeader, by rw [if_neg long]⟩

/-- The image sizes an accepted header gives (R602, R605). -/
theorem RomHeader.Accepted.imageBytes {h : RomHeader} {fileLength : Nat} (accepted : h.Accepted fileLength) :
    (h.prgBytes = 16384 ∨ h.prgBytes = 32768) ∧ (h.chrBytes = 0 ∨ h.chrBytes = 8192) := by
  obtain ⟨-, -, prgUnits, chrUnits, -⟩ := accepted
  exact ⟨prgUnits.imp (by rw [RomHeader.prgBytes, ·]; rfl) (by rw [RomHeader.prgBytes, ·]; rfl),
    chrUnits.imp (by rw [RomHeader.chrBytes, ·]; rfl) (by rw [RomHeader.chrBytes, ·]; rfl)⟩

/-- The images of a file are slices of it (R604). -/
theorem RomHeader.cartridge_eq (h : RomHeader) (file : List Byte) :
    h.cartridge file =
      ⟨(file.drop (16 + h.trainerBytes)).take h.prgBytes,
        (file.drop (16 + h.trainerBytes + h.prgBytes)).take h.chrBytes, h.mirroring⟩ := by
  rw [RomHeader.cartridge, List.drop_drop]

/-- The cartridge of an accepted file is legal (R602, R605). -/
theorem RomHeader.Accepted.cartridge_wellFormed {file : List Byte} {h : RomHeader} (accepted : h.Accepted file.length) :
    (h.cartridge file).wellFormed = true := by
  obtain ⟨prgBytes, chrBytes⟩ := accepted.imageBytes
  obtain ⟨-, -, -, -, long⟩ := accepted
  rw [RomHeader.fileBytes] at long
  rw [RomHeader.cartridge_eq, Cartridge.wellFormed_iff, List.length_take_of_le, List.length_take_of_le]
  · exact ⟨prgBytes, chrBytes⟩
  all_goals
    rw [List.length_drop]
    omega

/-- A byte of a slice is a byte of the file. -/
theorem getD_take_drop (file : List Byte) {start size i : Nat} (h : i < size) :
    ((file.drop start).take size).getD i 0 = file.getD (start + i) 0 := by
  simp only [List.getD_eq_getElem?_getD, List.getElem?_take_of_lt h, List.getElem?_drop]

/-- Settles O57: the conditions are those of R605 on the file's header, and the images are slices of the file. -/
theorem loadAcceptsOnlyTheFixedMapper : Obligations.LoadAcceptsOnlyTheFixedMapper := by
  intro file s at' flags7 trainer ok prg chr mirroring
  have ok_iff : ok ↔ 16 ≤ file.length ∧ (RomHeader.ofFile file).Accepted file.length := Iff.rfl
  have cartridge : (RomHeader.ofFile file).cartridge file = ⟨prg, chr, mirroring⟩ :=
    (RomHeader.ofFile file).cartridge_eq file
  refine ⟨fun h => ?_, fun h => loadFile_of_not_accepted s fun long accepted => h (ok_iff.mpr ⟨long, accepted⟩)⟩
  obtain ⟨long, accepted⟩ := ok_iff.mp h
  exact ⟨_, loadFile_of_accepted s long accepted, by rw [cartridge], fun i hi => getD_take_drop file hi,
    fun i hi => getD_take_drop file hi, loadImage_wf accepted.cartridge_wellFormed⟩

end Sys2Proof.Machine
end

section
/-! SUPPORT. The cycle counts of the opcode table (spec/70_reset_and_hazards.md R621, spec/30_encoding.md R152). -/

namespace Sys2Proof.Machine

/-- Settles O19: an operand's mode is its row's, so each mode's line of R621 speaks of the opcodes whose rows have that
mode; they are checked mode by mode. -/
theorem cycleCountsByModeAndClass : Obligations.CycleCountsByModeAndClass := by
  intro i
  have rowMode : i.operand.mode = (opRow i.opcode).mode := operand_mode i
  dsimp only
  rw [Instr.row]
  generalize i.operand.mode = mode at *
  generalize i.opcode = op at *
  cases mode
  all_goals
    dsimp only
    revert op
    decide

end Sys2Proof.Machine
end
